-- ==== Sys2Proof/Word.lean ====
section
/-!
DEFINITION. The widths the spec gives the engine's values (00_scope.md R14, 10_state.md R34 to R40).
Every value is unsigned (R14).
-/

namespace Sys2Proof

/-- A byte of the message, of the padded stream or of BUF (R18, R38). -/
abbrev Byte := BitVec 8

/-- A bus word: the value of one 32-bit host access and of the registers CMD, DATA, STATUS, DIGEST[i] (R48). -/
abbrev Word := BitVec 32

/-- A register of H, V or S: 64 bits holding a W-bit value (R35 to R37). -/
abbrev Reg := BitVec 64

end Sys2Proof
end

