-- ==== Sys2Proof/Syntax.lean ====
section
/-!
DEFINITION. The commands (one constructor per row of the opcode table), the algorithm variants, the host's bus
operations and the assembler's operations (30_encoding.md; 00_scope.md R2, R16).
-/

namespace Sys2Proof

/-- The three algorithm variants (00_scope.md R2). ALG holds no fourth value (10_state.md R32). -/
inductive Alg where
  | sha1
  | sha256
  | sha512
deriving DecidableEq, Repr

/-- A command: what a legal word written to CMD stands for (30_encoding.md R104, R105). -/
inductive Instr where
  /-- NOP (45_host_commands.md R281). -/
  | nop
  /-- INIT with its ALG field (R282); the value 3 has the legal shape and raises ILLEGAL_ALG (R102). -/
  | init (a : BitVec 2)
  /-- PUSH with its NB field: NB + 1 message bytes (R103, R283). -/
  | push (nb : BitVec 2)
  /-- FINISH (R284). -/
  | finish
deriving DecidableEq, Repr

/-- The named registers of the window (10_state.md R48, 30_encoding.md R109). -/
inductive HostReg where
  | cmd
  | data
  | status
  | digest (i : Fin 16)
deriving DecidableEq, Repr

/-- What the host has still to do on the bus, as its agent holds it (00_scope.md R16, 30_encoding.md R110). The width is
in bytes; a width other than 4 can be written down because the spec speaks of such accesses (20_memory.md R77). -/
inductive HostOp where
  /-- MemRead(addr, width). -/
  | read (addr width : Nat)
  /-- MemWrite(addr, width, value). -/
  | write (addr width : Nat) (value : Word)
  /-- WAIT: read STATUS again until it shows a state that is not busy (R110). -/
  | wait
deriving DecidableEq, Repr

/-- The assembler's operations and pseudo-operations (30_encoding.md R109, R110). -/
inductive AsmOp where
  | wr (r : HostReg) (imm : Word)
  | rd (r : HostReg)
  | nop
  | init (a : Alg)
  | push (n : Nat)
  | finish
  | setdata (imm : Word)
  | pushw (imm : Word)
  | pusht (tail : List Byte)
  | wait
  | rdigest (k : Nat)
deriving DecidableEq, Repr

end Sys2Proof
end

