-- ==== Sys2Proof/WellFormed.lean ====
section
/-!
DEFINITION. Which terms of the syntax the spec admits. An `Instr` has no ill-formed term: its operand types hold exactly
the values of the fields ALG and NB (30_encoding.md R101 to R103), so no check is made of it. The checks are those of a
bus access (20_memory.md R76, R77) and of an assembler operation (30_encoding.md R109, R110).
-/

namespace Sys2Proof

/-- A bus access of the engine's protocol: 4 bytes wide, at a multiple of 4 (20_memory.md R76). -/
def accessInProtocol (addr width : Nat) : Bool := width == 4 && addr % 4 == 0

/-- A host operation the bus protocol admits (R76). -/
def HostOp.wf : HostOp → Bool
  | .read addr width => accessInProtocol addr width
  | .write addr width _ => accessInProtocol addr width
  | .wait => true

/-- An assembler operation with operands the spec gives it: PUSH 1 to 4, PUSHT of 1 to 3 bytes, RDIGEST of 5, 8 or 16
registers (30_encoding.md R109, R110). -/
def AsmOp.wf : AsmOp → Bool
  | .push n => 1 ≤ n && n ≤ 4
  | .pusht tail => 1 ≤ tail.length && tail.length ≤ 3
  | .rdigest k => k == 5 || k == 8 || k == 16
  | .wr _ _ | .rd _ | .nop | .init _ | .finish | .setdata _ | .pushw _ | .wait => true

end Sys2Proof
end

