-- ==== Sys2Proof/Decode.lean ====
section
/-!
DEFINITION. The decoder, total on every 32-bit word and rejecting by name, and after it the encoder (30_encoding.md
R100 to R107).
-/

namespace Sys2Proof

/-- Why a word is no command (30_encoding.md R106). The hardware records none of these names: each raises the same
ILLEGAL_CMD. -/
inductive IllegalWord where
  /-- OP is 4 to 15. -/
  | reservedOp
  /-- A reserved bit ([7:6] or [31:10]) is not zero. -/
  | reservedBit
  /-- The ALG field is not zero outside INIT. -/
  | strayAlg
  /-- The NB field is not zero outside PUSH. -/
  | strayNb
deriving DecidableEq, Repr

/-- What the decoder answers: a command, or ILLEGAL with the reason. -/
inductive Decoded where
  | command (i : Instr)
  | illegal (why : IllegalWord)
deriving DecidableEq, Repr

/-- The field OP, bits [3:0] (R101). -/
def opField (w : Word) : BitVec 4 := w.extractLsb' 0 4

/-- The field ALG, bits [5:4] (R101). -/
def algField (w : Word) : BitVec 2 := w.extractLsb' 4 2

/-- The field NB, bits [9:8] (R101). -/
def nbField (w : Word) : BitVec 2 := w.extractLsb' 8 2

/-- The reserved bits [7:6] and [31:10] (R101). -/
def reservedBits (w : Word) : Word := w &&& 0xFFFFFCC0#32

/-- The first reason of R106 that holds of a word no pattern of R104 matches. -/
def illegalReason (w : Word) : IllegalWord :=
  if 4 ≤ (opField w).toNat then .reservedOp
  else if reservedBits w ≠ 0#32 then .reservedBit
  else if algField w ≠ 0#2 ∧ opField w ≠ 1#4 then .strayAlg
  else .strayNb

/-- The decoder of R104. -/
def decode (w : Word) : Decoded :=
  if w = 0x00000000#32 then .command .nop
  else if w &&& 0xFFFFFFCF#32 = 0x00000001#32 then .command (.init (algField w))
  else if w &&& 0xFFFFFCFF#32 = 0x00000002#32 then .command (.push (nbField w))
  else if w = 0x00000003#32 then .command .finish
  else .illegal (illegalReason w)

/-- The encoder: the match value of the command's row with its field in place (R105). -/
def encode : Instr → Word
  | .nop => 0x00000000#32
  | .init a => 0x00000001#32 ||| (a.setWidth 32 <<< 4)
  | .push nb => 0x00000002#32 ||| (nb.setWidth 32 <<< 8)
  | .finish => 0x00000003#32

/-- The command, if the word is one. -/
def Decoded.command? : Decoded → Option Instr
  | .command i => some i
  | .illegal _ => none

/-- The decoder on a word numbered as the opcode table numbers it: bit 0 is the word's least significant bit. A command
is one 32-bit word (R100, R108), so a number with a bit at 32 or above is none. -/
def decodeTableWord (nbits w : Nat) : Option Instr :=
  if w % 2 ^ nbits < 2 ^ 32 then (decode (BitVec.ofNat 32 (w % 2 ^ nbits))).command? else none

/-- The ALG field of the INIT that selects an algorithm (R102). -/
def Alg.field : Alg → BitVec 2
  | .sha1 => 0#2
  | .sha256 => 1#2
  | .sha512 => 2#2

/-- The algorithm an ALG field names, and none for 3 (R102). -/
def Alg.ofField (a : BitVec 2) : Option Alg :=
  if a = 0#2 then some .sha1 else if a = 1#2 then some .sha256 else if a = 2#2 then some .sha512 else none

end Sys2Proof
end

