-- ==== Sys2Proof/Machine/Datapath.lean ====
section
/-!
DEFINITION. WordArithmetic: the datapath primitives (40_word_arithmetic.md R130 to R148), generic in the width W. All are
total and pure, write no flag and raise nothing (R130).
-/

namespace Sys2Proof.Machine

/-- `add_W(x1, ..., xn)` (R131): the sum over the integers, modulo 2^W. -/
def addW {w : Nat} (xs : List (BitVec w)) : BitVec w :=
  BitVec.ofNat w (xs.foldr (fun x sum => x.toNat + sum) 0)

/-- `rotl_W(x, n)` (R132), for 0 < n < W; log entry 17 for other n. -/
def rotl {w : Nat} (x : BitVec w) (n : Nat) : BitVec w := (x <<< n) ||| (x >>> (w - n))

/-- `rotr_W(x, n)` (R133), for 0 < n < W; log entry 17 for other n. -/
def rotr {w : Nat} (x : BitVec w) (n : Nat) : BitVec w := (x >>> n) ||| (x <<< (w - n))

/-- `shr_W(x, n)`, the logical shift (R134). -/
def shr {w : Nat} (x : BitVec w) (n : Nat) : BitVec w := x >>> n

/-- `not_W(x)` (R135). -/
def notW {w : Nat} (x : BitVec w) : BitVec w := x ^^^ BitVec.allOnes w

/-- `xor3(a, b, c)`, parity (R136, R137). -/
def xor3 {w : Nat} (a b c : BitVec w) : BitVec w := a ^^^ b ^^^ c

/-- `maj(a, b, c)`, majority (R138). -/
def maj {w : Nat} (a b c : BitVec w) : BitVec w := (a &&& b) ||| (a &&& c) ||| (b &&& c)

/-- `ch_W(a, b, c)`, choice (R139). -/
def ch {w : Nat} (a b c : BitVec w) : BitVec w := (notW a &&& c) ||| (a &&& b)

/-- R140. Log entry 10. -/
def sigma0_32 (x : BitVec 32) : BitVec 32 := rotr x 7 ^^^ rotr x 18 ^^^ shr x 3

/-- R141. Log entry 10. -/
def sigma1_32 (x : BitVec 32) : BitVec 32 := rotr x 17 ^^^ rotr x 19 ^^^ shr x 10

/-- R142. Log entry 10. -/
def sigma0_64 (x : BitVec 64) : BitVec 64 := rotr x 1 ^^^ rotr x 8 ^^^ shr x 7

/-- R143. Log entry 10. -/
def sigma1_64 (x : BitVec 64) : BitVec 64 := rotr x 19 ^^^ rotr x 61 ^^^ shr x 6

/-- R144. Log entry 10. -/
def bigSigma0_32 (x : BitVec 32) : BitVec 32 := rotr x 2 ^^^ rotr x 13 ^^^ rotr x 22

/-- R145. Log entry 10. -/
def bigSigma1_32 (x : BitVec 32) : BitVec 32 := rotr x 6 ^^^ rotr x 11 ^^^ rotr x 25

/-- R146. Log entry 10. -/
def bigSigma0_64 (x : BitVec 64) : BitVec 64 := rotr x 28 ^^^ rotr x 34 ^^^ rotr x 39

/-- R147. Log entry 10. -/
def bigSigma1_64 (x : BitVec 64) : BitVec 64 := rotr x 14 ^^^ rotr x 18 ^^^ rotr x 41

/-- The four mixing functions of one width: what `sigma0_W`, `sigma1_W`, `Sigma0_W`, `Sigma1_W` mean (R148). -/
structure Mixing (w : Nat) where
  sigma0 : BitVec w → BitVec w
  sigma1 : BitVec w → BitVec w
  bigSigma0 : BitVec w → BitVec w
  bigSigma1 : BitVec w → BitVec w

/-- The functions selected when W = 32 (R148). -/
def mixing32 : Mixing 32 := ⟨sigma0_32, sigma1_32, bigSigma0_32, bigSigma1_32⟩

/-- The functions selected when W = 64 (R148). -/
def mixing64 : Mixing 64 := ⟨sigma0_64, sigma1_64, bigSigma0_64, bigSigma1_64⟩

/-- The 32-bit value a register of H, V or S holds when W = 32 (10_state.md R35 to R37). -/
def low32 (x : BitVec 64) : BitVec 32 := x.setWidth 32

/-- A 32-bit word in a 64-bit register: bits [63:32] are 0 (10_state.md R35). -/
def zext64 (x : BitVec 32) : BitVec 64 := x.setWidth 64

end Sys2Proof.Machine
end

