-- ==== Sys2Proof/Machine/Params.lean ====
section
/-!
DEFINITION. The parameters of each algorithm variant (00_scope.md R11, R12). All are functions of ALG (10_state.md R32).
-/

namespace Sys2Proof.Machine

/-- W, the word width in bits (R11). -/
def wordBits : Alg → Nat
  | .sha1 => 32
  | .sha256 => 32
  | .sha512 => 64

/-- W/8, the word width in bytes. -/
def wordBytes (a : Alg) : Nat := wordBits a / 8

/-- B, the block size in bits (R11, R12). -/
def blockBits : Alg → Nat
  | .sha1 => 512
  | .sha256 => 512
  | .sha512 => 1024

/-- B/8, the block size in bytes (R11). -/
def blockBytes (a : Alg) : Nat := blockBits a / 8

/-- L = B/8, the width of the length field in bits (R11; 90_conflicts.md C11). -/
def lenBits (a : Alg) : Nat := blockBits a / 8

/-- L/8, the width of the length field in bytes (R11). -/
def lenBytes (a : Alg) : Nat := lenBits a / 8

/-- B/W, the words of a block (R11). -/
def blockWords (a : Alg) : Nat := blockBits a / wordBits a

/-- T, the schedule length and the rounds of a block (R11). -/
def rounds : Alg → Nat
  | .sha1 => 80
  | .sha256 => 64
  | .sha512 => 80

/-- NH, the words of the working and of the running hash state (R11). -/
def stateWords : Alg → Nat
  | .sha1 => 5
  | .sha256 => 8
  | .sha512 => 8

/-- The digest's width in bits, NH × W (R11). -/
def digestBits (a : Alg) : Nat := stateWords a * wordBits a

/-- The hexadecimal digits of the digest, NH × W/4 (R11, 44_compressor.md R251). -/
def digestHexDigits (a : Alg) : Nat := stateWords a * (wordBits a / 4)

end Sys2Proof.Machine
end

