-- ==== Sys2Proof/Config.lean ====
section
/-!
DEFINITION. The free values: what the spec leaves unspecified and the machine goes on with. Each is a constant without
a body, so no proof can learn its value. The first argument is the model's draw counter (`State.draws`).
-/

namespace Sys2Proof.Config

/-- The unspecified value of H[i] after a platform reset (10_state.md R51). Log entry 2; safe. -/
opaque resetH (draw i : Nat) : Reg

/-- The unspecified value of V[i] after a platform reset (R51). Log entry 2; safe. -/
opaque resetV (draw i : Nat) : Reg

/-- The unspecified value of S[i] after a platform reset (R51). Log entry 2; safe. -/
opaque resetS (draw i : Nat) : Reg

/-- The unspecified value of BUF[i] after a platform reset (R51). Log entry 2; safe. -/
opaque resetBuf (draw i : Nat) : Byte

/-- The unspecified value of MLEN after a platform reset (R51). Log entry 2; safe. -/
opaque resetMlen (draw : Nat) : BitVec 128

/-- What a host read outside the engine's window returns: the platform's business (20_memory.md R70). Log entry 6;
safe. -/
opaque platformRead (draw : Nat) : Word

end Sys2Proof.Config
end

