-- ==== Sys2Proof/Machine/State.lean ====
section
/-!
DEFINITION. The state of the machine as plain data: the engine's registers (10_state.md), the host agent's pending bus
operations and the interleaving of the agents (10_state.md R30, 20_memory.md R82), the state after reset
(10_state.md R51, 70_reset_and_hazards.md R390), and the reasons a step can stop.
-/

namespace Sys2Proof.Machine

/-- The values STATE holds (10_state.md R31); 6 and 7 are never held. -/
inductive Mode where
  | uninit
  | accept
  | busyBlock
  | busyFinal
  | done
  | error
deriving DecidableEq, Repr

/-- The values of CPH, the compression phase (R41). -/
inductive Phase where
  | idle
  | load
  | expand
  | round
  | fold
deriving DecidableEq, Repr

/-- The values of PSTAGE, the padding stage (R43). -/
inductive PadStage where
  | none
  | mark
  | zfull
  | len
  | second
  | last
deriving DecidableEq, Repr

/-- The values of ERRCODE (60_exceptions.md R361); 7 to 15 are never recorded. -/
inductive ErrCode where
  | noError
  | illegalCmd
  | illegalAlg
  | notInit
  | busy
  | afterDone
  | overrun
deriving DecidableEq, Repr

/-- Which agent moves next (10_state.md R30; the platform applies reset, 70_reset_and_hazards.md R390). -/
inductive Agent where
  | host
  | engine
  | platform
deriving DecidableEq, Repr

/-- Why the machine stops with a fault. -/
inductive Fault where
  /-- Raised by an engine step in a state the spec calls unreachable: a busy engine with a combination of CPH, PSTAGE
  and STATE that R321 does not list, or an index outside the range its rule gives (R323, R324, R326). Safe: the spec
  lets a model treat it as stuck, and no reachable state raises it. Log entry 8. -/
  | sequencerStuck
deriving DecidableEq, Repr

/-- Why a step is refused. -/
inductive Refusal where
  /-- Raised by an arm of exec for a command that has no meaning yet. Safe. No arm raises it. -/
  | notModelled (mnemonic : String)
  /-- Raised by a host access to the window that is not 4 bytes wide or not at a multiple of 4 (20_memory.md R77: "a
  model refuses such an access"). Safe. Log entry 7. -/
  | accessOutsideProtocol
deriving DecidableEq, Repr

/-- The state of the machine. -/
structure State where
  /-- STATE (R31). -/
  mode       : Mode
  /-- ALG (R32). -/
  alg        : Alg
  /-- ERRCODE (R33). -/
  errcode    : ErrCode
  /-- DATA (R34). -/
  data       : BitVec 32
  /-- H[0..7], the running hash state (R35). -/
  h          : Vector (BitVec 64) 8
  /-- V[0..7], the working state (R36). -/
  v          : Vector (BitVec 64) 8
  /-- S[0..79], the message schedule (R37). -/
  sch        : Vector (BitVec 64) 80
  /-- BUF[0..127], the block buffer (R38). -/
  buf        : Vector (BitVec 8) 128
  /-- FILL, the number of valid bytes in BUF (R39). -/
  fill       : BitVec 8
  /-- MLEN, the message length in bits modulo 2^L (R40). -/
  mlen       : BitVec 128
  /-- CPH, the compression phase (R41). -/
  cph        : Phase
  /-- t, the schedule or round index (R42). -/
  t          : BitVec 7
  /-- PSTAGE, the padding stage (R43). -/
  pstage     : PadStage
  /-- ENGINE_BASE, the platform's parameter (00_scope.md R13); no step changes it. Log entry 5. -/
  engineBase : Nat
  /-- The host's pending operations, in the order the host issues them (20_memory.md R85). Log entry 4. -/
  host       : List HostOp
  /-- Which agent moves next, one entry a step (R82). Log entry 3. -/
  turns      : List Agent
  /-- The values the host's reads returned, newest first (R16). Log entry 14. -/
  responses  : List (BitVec 32)
  /-- The model's own counter of free values drawn. Log entry 2. -/
  draws      : Nat
deriving DecidableEq, Repr

/-- What a step answers. -/
abbrev Outcome := Host.Outcome State Fault Refusal

/-- The machine right after reset (10_state.md R51). H, V, S, BUF and MLEN are unspecified there: DESIGN CHOICE zero,
log entry 1, unsafe. ENGINE_BASE is the platform's: DESIGN CHOICE 0, log entry 5. Nothing is pending, log entry 4. -/
def State.reset : State where
  mode := .uninit
  alg := .sha1
  errcode := .noError
  data := 0x00000000#32
  h := Vector.replicate 8 0#64
  v := Vector.replicate 8 0#64
  sch := Vector.replicate 80 0#64
  buf := Vector.replicate 128 0#8
  fill := 0#8
  mlen := 0#128
  cph := .idle
  t := 0#7
  pstage := .none
  engineBase := 0
  host := []
  turns := []
  responses := []
  draws := 0

end Sys2Proof.Machine
end

