-- ==== Sys2Proof/Machine/Operands.lean ====
section
/-!
DEFINITION. Register arrays and byte order: reading and writing elements of H, V, S and BUF (00_scope.md R15), the bytes
PUSH takes from DATA (20_memory.md R78), words formed from bytes and bytes of the length field (R18, R73, R75), and the
offsets of the window's registers (10_state.md R48).
-/

namespace Sys2Proof.Machine

/-- `X[i]`: element i of a register array. The rules read no element beyond the array; `none` gives the default. -/
def readAt {α : Type} {n : Nat} (x : Vector α n) (i : Nat) (default : α) : α := if h : i < n then x[i] else default

/-- The elements of a list from index i on, those at lo .. hi − 1 replaced by `f` of their index. -/
def replaceRange {α : Type} (f : Nat → α) (lo hi : Nat) : Nat → List α → List α
  | _, [] => []
  | i, y :: ys => (if lo ≤ i ∧ i < hi then f i else y) :: replaceRange f lo hi (i + 1) ys

theorem replaceRange_length {α : Type} (f : Nat → α) (lo hi : Nat) (ys : List α) :
    ∀ i, (replaceRange f lo hi i ys).length = ys.length := by
  induction ys with
  | nil => intro i; rfl
  | cons y ys ih => intro i; simp [replaceRange, ih]

/-- `X[i] <- f i` for `i` in lo .. hi − 1, all at once (R15); every other element keeps its value. -/
def writeRange {α : Type} {n : Nat} (x : Vector α n) (lo hi : Nat) (f : Nat → α) : Vector α n :=
  ⟨(replaceRange f lo hi 0 x.toList).toArray, by simp [replaceRange_length]⟩

/-- `X[i] <- value`. -/
def writeAt {α : Type} {n : Nat} (x : Vector α n) (i : Nat) (value : α) : Vector α n :=
  writeRange x i (i + 1) fun _ => value

/-- Byte k of DATA in the order PUSH takes them, `DATA[31−8k : 24−8k]` (20_memory.md R78, 30_encoding.md R103). -/
def dataByte (data : BitVec 32) (k : Nat) : BitVec 8 := (data >>> (24 - 8 * k)).setWidth 8

/-- The first n bytes PUSH takes from DATA, in order (R78). -/
def dataBytes (data : BitVec 32) (n : Nat) : List (BitVec 8) := (List.range n).map (dataByte data)

/-- The number of bytes of a PUSH, n = NB + 1 (30_encoding.md R103). -/
def pushCount (nb : BitVec 2) : Nat := nb.toNat + 1

/-- The unsigned integer of n bytes, the first most significant (00_scope.md R18). -/
def bigEndian (byte : Nat → BitVec 8) (n : Nat) : Nat :=
  (List.range n).foldl (fun value k => value * 256 + (byte k).toNat) 0

/-- `be_word(S, i, 8·width)`: the word of `width` bytes from byte i·width on, in a 64-bit container (R18, R73). -/
def beWord (byte : Nat → BitVec 8) (i width : Nat) : BitVec 64 :=
  BitVec.ofNat 64 (bigEndian (fun k => byte (i * width + k)) width)

/-- `be_bytes(v, n)[j]`: byte j of the n-byte big-endian encoding of v (R18). R18 defines it for v < 2^(8n) only; for a
larger v the bytes are those of v modulo 2^(8n), DESIGN CHOICE, log entry 24. -/
def beByte (value n j : Nat) : BitVec 8 := BitVec.ofNat 8 (value / 256 ^ (n - 1 - j))

/-- `be_bytes(v, n)` (R18), with entry 24's choice for v of 2^(8n) or more. -/
def beBytes (value n : Nat) : List (BitVec 8) := (List.range n).map (beByte value n)

/-- The offset of a named register (10_state.md R48, 30_encoding.md R109). -/
def regOffset : HostReg → Nat
  | .cmd => 0x00
  | .data => 0x04
  | .status => 0x08
  | .digest i => 0x40 + 4 * i.val

/-- The bytes of the window (20_memory.md R70). -/
def windowBytes : Nat := 128

/-- What a bus access reaches. -/
inductive BusTarget where
  /-- No byte of the window: not decoded by the engine (20_memory.md R70). -/
  | outside
  /-- The register at an offset (R76). -/
  | register (off : Nat)
  /-- The window, by an access outside the protocol (R77). -/
  | violation
deriving DecidableEq, Repr

/-- The engine's address decoder (20_memory.md R70, R76, R77). -/
def busTarget (base addr width : Nat) : BusTarget :=
  if addr + width ≤ base ∨ base + windowBytes ≤ addr then .outside
  else if width = 4 ∧ addr % 4 = 0 ∧ base ≤ addr ∧ addr + width ≤ base + windowBytes then .register (addr - base)
  else .violation

end Sys2Proof.Machine
end

