-- ==== Sys2Proof/Machine/Flags.lean ====
section
/-!
DEFINITION. The status the host sees. The engine has no arithmetic flags (10_state.md R47): the only status is the
STATUS register (R49), and beside it stand the DIGEST registers (R50), whose value depends on STATE.
-/

namespace Sys2Proof.Machine

/-- The value of STATE (10_state.md R31). -/
def modeCode : Mode → BitVec 3
  | .uninit => 0#3
  | .accept => 1#3
  | .busyBlock => 2#3
  | .busyFinal => 3#3
  | .done => 4#3
  | .error => 5#3

/-- The value of ALG (10_state.md R32). -/
def algCode : Alg → BitVec 2
  | .sha1 => 0#2
  | .sha256 => 1#2
  | .sha512 => 2#2

/-- The value of ERRCODE (60_exceptions.md R361). -/
def errCode : ErrCode → BitVec 4
  | .noError => 0#4
  | .illegalCmd => 1#4
  | .illegalAlg => 2#4
  | .notInit => 3#4
  | .busy => 4#4
  | .afterDone => 5#4
  | .overrun => 6#4

/-- The engine is busy: STATE is BUSY_BLOCK or BUSY_FINAL (10_state.md R31). -/
def State.busy (s : State) : Bool := s.mode == .busyBlock || s.mode == .busyFinal

/-- The FILL field of STATUS: FILL in ACCEPT, 0 otherwise (10_state.md R49). -/
def statusFill (s : State) : BitVec 8 := if s.mode = .accept then s.fill else 0#8

/-- STATUS (10_state.md R49). -/
def statusWord (s : State) : BitVec 32 :=
  (modeCode s.mode).setWidth 32 ||| ((algCode s.alg).setWidth 32 <<< 4) ||| ((errCode s.errcode).setWidth 32 <<< 8)
    ||| ((statusFill s).setWidth 32 <<< 16)

/-- DIGEST[i] (10_state.md R50). -/
def digestWord (s : State) (i : Nat) : BitVec 32 :=
  if s.mode ≠ .done then 0#32
  else if wordBits s.alg = 32 then (if i < stateWords s.alg then low32 (readAt s.h i 0#64) else 0#32)
  else if i % 2 = 0 then low32 (readAt s.h (i / 2) 0#64 >>> 32)
  else low32 (readAt s.h ((i - 1) / 2) 0#64)

/-- STATUS[2:0] of a word read from STATUS shows a busy state (20_memory.md R86, 30_encoding.md R110). -/
def showsBusy (status : BitVec 32) : Bool := status.extractLsb' 0 3 == 2#3 || status.extractLsb' 0 3 == 3#3

end Sys2Proof.Machine
end

