-- ==== Sys2Proof/Machine/Ops.lean ====
section
/-!
DEFINITION. The shared operations over the registers: error entry (the exception of this machine) and the start of a
computation that leaves it, platform reset, the byte append of PUSH, and the check of STATE that PUSH and FINISH share.
-/

namespace Sys2Proof.Machine

/-- Error entry, `raise EngineError(c)` (60_exceptions.md R362): STATE, ERRCODE, CPH, t and PSTAGE, nothing else. There is
no handler and no saved program counter. -/
def raiseError (c : ErrCode) (s : State) : State :=
  { s with mode := .error, errcode := c, cph := .idle, t := 0#7, pstage := .none }

/-- The effect of a legal INIT (45_host_commands.md R282), which is also the only command that leaves ERROR
(60_exceptions.md R364). DATA, BUF, V and S are not written. -/
def startComputation (a : Alg) (s : State) : State :=
  { s with mode := .accept, alg := a, errcode := .noError, h := initialHash a, fill := 0#8, mlen := 0#128,
           cph := .idle, t := 0#7, pstage := .none }

/-- A platform reset in a run (70_reset_and_hazards.md R390, 10_state.md R51). The registers the table leaves unspecified
take free values of this draw: log entry 2, safe. What the host has pending and has read is the host's, not the
engine's. -/
def applyReset (s : State) : State :=
  { s with mode := .uninit, alg := .sha1, errcode := .noError, data := 0x00000000#32, fill := 0#8, cph := .idle,
           t := 0#7, pstage := .none,
           h := writeRange s.h 0 8 (Config.resetH s.draws),
           v := writeRange s.v 0 8 (Config.resetV s.draws),
           sch := writeRange s.sch 0 80 (Config.resetS s.draws),
           buf := writeRange s.buf 0 128 (Config.resetBuf s.draws),
           mlen := Config.resetMlen s.draws,
           draws := s.draws + 1 }

/-- The first three lines of PUSH in ACCEPT: n bytes of DATA appended to BUF, FILL and MLEN advanced
(45_host_commands.md R283). -/
def appendBytes (n : Nat) (s : State) : State :=
  { s with buf := writeRange s.buf s.fill.toNat (s.fill.toNat + n) fun i => dataByte s.data (i - s.fill.toNat),
           fill := BitVec.ofNat 8 (s.fill.toNat + n),
           mlen := BitVec.ofNat 128 ((s.mlen.toNat + 8 * n) % 2 ^ lenBits s.alg) }

/-- The last line of PUSH: a full block starts its compression (R283). -/
def startFullBlock (s : State) : State :=
  if s.fill.toNat = blockBytes s.alg then { s with mode := .busyBlock, cph := .load } else s

/-- The engine starts to pad (45_host_commands.md R284). -/
def startPadding (s : State) : State := { s with mode := .busyFinal, pstage := .mark }

/-- The case on STATE that PUSH and FINISH share (R283, R284): an error outside ACCEPT, nothing in ERROR (R280,
60_exceptions.md R363), and `accepted` in ACCEPT. -/
def whenAccepting (s : State) (accepted : State) : State :=
  match s.mode with
  | .uninit => raiseError .notInit s
  | .accept => accepted
  | .busyBlock => raiseError .busy s
  | .busyFinal => raiseError .busy s
  | .done => raiseError .afterDone s
  | .error => s

end Sys2Proof.Machine
end

