-- ==== Sys2Proof/Machine/Commands.lean ====
section
/-!
DEFINITION. The meanings of the commands (45_host_commands.md R280 to R284): each is the whole effect of writing the
command's word to CMD, in every state, the rule that ERROR ignores all but INIT included (R280). Log entry 13.
-/

namespace Sys2Proof.Machine

/-- NOP (R281): no state changes, in any state. -/
def execNop (s : State) : Outcome := .next s

/-- INIT (R282): a legal ALG field starts a computation in every state; 3 raises ILLEGAL_ALG in every state. -/
def execInit (a : BitVec 2) (s : State) : Outcome :=
  match Alg.ofField a with
  | some alg => .next (startComputation alg s)
  | none => .next (raiseError .illegalAlg s)

/-- PUSH (R283): OVERRUN takes no byte; else the bytes are appended and a full block starts its compression. -/
def execPush (nb : BitVec 2) (s : State) : Outcome :=
  .next (whenAccepting s
    (if s.fill.toNat + pushCount nb > blockBytes s.alg then raiseError .overrun s
     else startFullBlock (appendBytes (pushCount nb) s)))

/-- FINISH (R284). -/
def execFinish (s : State) : Outcome := .next (whenAccepting s (startPadding s))

/-- A word that is no command (R280, 30_encoding.md R106): ILLEGAL_CMD, and ignored in ERROR. -/
def illegalCommand (s : State) : Outcome :=
  .next (if s.mode = .error then s else raiseError .illegalCmd s)

end Sys2Proof.Machine
end

