-- ==== Sys2Proof/Machine/Dispatch.lean ====
section
/-!
DEFINITION. One arm per command.
-/

namespace Sys2Proof.Machine

def exec (i : Instr) (s : State) : Host.Outcome State Fault Refusal :=
  match i with
  | .nop => Sys2Proof.Machine.execNop s
  | .init a => Sys2Proof.Machine.execInit a s
  | .push nb => Sys2Proof.Machine.execPush nb s
  | .finish => Sys2Proof.Machine.execFinish s

end Sys2Proof.Machine
end

