-- ==== Sys2Proof/Machine/HostBus.lean ====
section
/-!
DEFINITION. The host's accesses (20_memory.md R76 to R80, 45_host_commands.md R280, R285 to R291): each is one atomic
transition.
-/

namespace Sys2Proof.Machine

/-- A write of CMD (R280): the decoded command's meaning, or the illegal word's. -/
def writeCmd (w : BitVec 32) (s : State) : Outcome :=
  match decode w with
  | .command i => exec i s
  | .illegal _ => illegalCommand s

/-- `DATA <- v` (R285). -/
def writeData (value : BitVec 32) (s : State) : State := { s with data := value }

/-- A write of the register at an offset: CMD (R280), DATA (R285); elsewhere no state changes (R290). -/
def writeRegister (off : Nat) (value : BitVec 32) (s : State) : Outcome :=
  if off = 0x00 then writeCmd value s
  else if off = 0x04 then .next (writeData value s)
  else .next s

/-- The value of the register at an offset (10_state.md R48; R286 to R289, R291): CMD and the reserved offsets read 0. -/
def readRegister (off : Nat) (s : State) : BitVec 32 :=
  if off = 0x04 then s.data
  else if off = 0x08 then statusWord s
  else if 0x40 ≤ off then digestWord s ((off - 0x40) / 4)
  else 0#32

/-- A read returns its value to the host and changes no engine register (20_memory.md R79). -/
def respond (value : BitVec 32) (s : State) : State := { s with responses := value :: s.responses }

/-- A read outside the window: the engine does not decode it and the platform's value is free (R70). Log entry 6. -/
def respondFromPlatform (s : State) : State :=
  { s with responses := Config.platformRead s.draws :: s.responses, draws := s.draws + 1 }

/-- `MemRead(addr, width)` (00_scope.md R16). -/
def hostRead (addr width : Nat) (s : State) : Outcome :=
  match busTarget s.engineBase addr width with
  | .outside => .next (respondFromPlatform s)
  | .register off => .next (respond (readRegister off s) s)
  | .violation => .refused .accessOutsideProtocol

/-- `MemWrite(addr, width, value)` (R16). A write outside the window changes nothing of the engine (R70). -/
def hostWrite (addr width : Nat) (value : BitVec 32) (s : State) : Outcome :=
  match busTarget s.engineBase addr width with
  | .outside => .next s
  | .register off => writeRegister off value s
  | .violation => .refused .accessOutsideProtocol

/-- One poll of WAIT (30_encoding.md R110): a read of STATUS; WAIT stays pending while the value shows a busy state. Log
entry 11. -/
def pollStatus (rest : List HostOp) (s : State) : State :=
  respond (statusWord s) { s with host := if showsBusy (statusWord s) then .wait :: rest else rest }

/-- The host's turn: its next pending operation; with none pending, nothing happens. -/
def hostTurn (s : State) : Outcome :=
  match s.host with
  | [] => .next s
  | .wait :: rest => .next (pollStatus rest s)
  | .read addr width :: rest => hostRead addr width { s with host := rest }
  | .write addr width value :: rest => hostWrite addr width value { s with host := rest }

end Sys2Proof.Machine
end

