-- ==== Sys2Proof/Machine/Rounds.lean ====
section
/-!
DEFINITION. Compressor: the rounds and the fold (44_compressor.md R240 to R246).
-/

namespace Sys2Proof.Machine

/-- f(b, c, d) of a SHA-1 round, by phase (R241). -/
def sha1F (t : Nat) (b c d : BitVec 32) : BitVec 32 :=
  match sha1Phase t with
  | 0 => ch b c d
  | 1 => xor3 b c d
  | 2 => maj b c d
  | _ => xor3 b c d

/-- The new leading word of SHA-1 round t (R242). -/
def sha1New (t : Nat) (k s a b c d e : BitVec 32) : BitVec 32 := addW [rotl a 5, sha1F t b c d, k, s, e]

/-- SHA-1 round t: the state rotates to (new, a, rotl(b, 30), c, d), all from the values before the round (R242). -/
def sha1Round (t : Nat) (k s a b c d e : BitVec 32) : List (BitVec 32) :=
  [sha1New t k s a b c d e, a, rotl b 30, c, d]

/-- T1 of a SHA-256 or SHA-512 round (R243, R244). -/
def sha2T1 {w : Nat} (m : Mixing w) (k s e f g h : BitVec w) : BitVec w := addW [m.bigSigma1 e, ch e f g, h, s, k]

/-- T2 of a SHA-256 or SHA-512 round (R243, R244). -/
def sha2T2 {w : Nat} (m : Mixing w) (a b c : BitVec w) : BitVec w := addW [m.bigSigma0 a, maj a b c]

/-- A SHA-256 or SHA-512 round (R243, R244), all from the values before the round. -/
def sha2Round {w : Nat} (m : Mixing w) (k s a b c d e f g h : BitVec w) : List (BitVec w) :=
  [addW [sha2T1 m k s e f g h, sha2T2 m a b c], a, b, c, addW [d, sha2T1 m k s e f g h], e, f, g]

/-- The words of the working state after round t with schedule word `s` (R242 to R244), NH of them, read by index. -/
def roundWords (al : Alg) (t : Nat) (s : BitVec 64) (v : Nat → BitVec 64) : List (BitVec 64) :=
  match al with
  | .sha1 =>
    (sha1Round t (kSha1 t) (low32 s) (low32 (v 0)) (low32 (v 1)) (low32 (v 2)) (low32 (v 3)) (low32 (v 4))).map zext64
  | .sha256 =>
    (sha2Round mixing32 (low32 (roundConstant .sha256 t)) (low32 s) (low32 (v 0)) (low32 (v 1)) (low32 (v 2))
      (low32 (v 3)) (low32 (v 4)) (low32 (v 5)) (low32 (v 6)) (low32 (v 7))).map zext64
  | .sha512 =>
    sha2Round mixing64 (roundConstant .sha512 t) s (v 0) (v 1) (v 2) (v 3) (v 4) (v 5) (v 6) (v 7)

/-- `round_t(V, s)`: V[0 .. NH−1] take the new words, V[NH .. 7] keep theirs (46_sequencer.md R324). -/
def roundStep (al : Alg) (t : Nat) (s : BitVec 64) (v : Vector (BitVec 64) 8) : Vector (BitVec 64) 8 :=
  writeRange v 0 (stateWords al) fun i => (roundWords al t s fun j => readAt v j 0#64).getD i 0#64

/-- `add_W(H[i], V[i])` on registers (R246): modulo 2^W. -/
def foldWord (al : Alg) (h v : BitVec 64) : BitVec 64 :=
  match al with
  | .sha1 => zext64 (addW [low32 h, low32 v])
  | .sha256 => zext64 (addW [low32 h, low32 v])
  | .sha512 => addW [h, v]

/-- The fold of the working state into the running hash state: H[0 .. NH−1] (R246); the others keep theirs. -/
def foldHash (al : Alg) (h v : Vector (BitVec 64) 8) : Vector (BitVec 64) 8 :=
  writeRange h 0 (stateWords al) fun i => foldWord al (readAt h i 0#64) (readAt v i 0#64)

end Sys2Proof.Machine
end

