-- ==== Sys2Proof/Machine/Schedule.lean ====
section
/-!
DEFINITION. ScheduleExpander: the derived words of a block's message schedule (43_schedule_expander.md R220 to R225).
-/

namespace Sys2Proof.Machine

/-- The SHA-1 expansion formula (R221). -/
def sha1Expand (x3 x8 x14 x16 : BitVec 32) : BitVec 32 := rotl (x3 ^^^ x8 ^^^ x14 ^^^ x16) 1

/-- The SHA-256 and SHA-512 expansion formula (R222, R223). -/
def sha2Expand {w : Nat} (m : Mixing w) (x2 x7 x15 x16 : BitVec w) : BitVec w :=
  addW [m.sigma1 x2, x7, m.sigma0 x15, x16]

/-- `expand_t(s)` for the algorithm (R221 to R223), on the words of a schedule read by index. -/
def expandWord (a : Alg) (s : Nat → BitVec 64) (t : Nat) : BitVec 64 :=
  match a with
  | .sha1 => zext64 (sha1Expand (low32 (s (t - 3))) (low32 (s (t - 8))) (low32 (s (t - 14))) (low32 (s (t - 16))))
  | .sha256 =>
    zext64 (sha2Expand mixing32 (low32 (s (t - 2))) (low32 (s (t - 7))) (low32 (s (t - 15))) (low32 (s (t - 16))))
  | .sha512 => sha2Expand mixing64 (s (t - 2)) (s (t - 7)) (s (t - 15)) (s (t - 16))

end Sys2Proof.Machine
end

