-- ==== Sys2Proof/Machine/Sequencer.lean ====
section
/-!
DEFINITION. The engine's steps (46_sequencer.md R320 to R329): each is one atomic transition over engine registers only.
-/

namespace Sys2Proof.Machine

/-- LOAD (R322): the buffer's words into S[0..15], H into V. -/
def stepLoad (s : State) : State :=
  { s with sch := writeRange s.sch 0 16 fun j => beWord (fun k => readAt s.buf k 0#8) j (wordBytes s.alg),
           v := writeRange s.v 0 (stateWords s.alg) fun i => readAt s.h i 0#64,
           t := 16#7, cph := .expand }

/-- EXPAND (R323): one schedule word; after the last, the rounds start at 0. -/
def stepExpand (s : State) : State :=
  { s with sch := writeAt s.sch s.t.toNat (expandWord s.alg (fun i => readAt s.sch i 0#64) s.t.toNat),
           t := if s.t.toNat + 1 = rounds s.alg then 0#7 else BitVec.ofNat 7 (s.t.toNat + 1),
           cph := if s.t.toNat + 1 = rounds s.alg then .round else .expand }

/-- ROUND (R324): one round; after the last, t is T and the fold follows. -/
def stepRound (s : State) : State :=
  { s with v := roundStep s.alg s.t.toNat (readAt s.sch s.t.toNat 0#64) s.v,
           t := BitVec.ofNat 7 (s.t.toNat + 1),
           cph := if s.t.toNat + 1 = rounds s.alg then .fold else .round }

/-- Where the engine goes on after a FOLD: STATE (R325, R329). -/
def modeAfterFold (s : State) : Mode :=
  if s.mode = .busyBlock then .accept
  else if s.pstage = .second then s.mode
  else if s.pstage = .last then .done
  else s.mode

/-- Where the engine goes on after a FOLD: PSTAGE (R325, R329). -/
def pstageAfterFold (s : State) : PadStage :=
  if s.mode = .busyBlock then s.pstage
  else if s.pstage = .second then .len
  else if s.pstage = .last then .none
  else s.pstage

/-- FOLD (R325). -/
def stepFold (s : State) : State :=
  { s with h := foldHash s.alg s.h s.v, fill := 0#8, cph := .idle, t := 0#7,
           mode := modeAfterFold s, pstage := pstageAfterFold s }

/-- MARK (R326): the byte 0x80, then LEN if the length field fits in this block, else ZFULL. -/
def stepMark (s : State) : State :=
  { s with buf := writeAt s.buf s.fill.toNat 0x80#8,
           fill := BitVec.ofNat 8 (s.fill.toNat + 1),
           pstage := if s.fill.toNat + 1 ≤ blockBytes s.alg - lenBytes s.alg then .len else .zfull }

/-- ZFULL (R327): the block is completed with zeros; the length field goes into the next. -/
def stepZfull (s : State) : State :=
  { s with buf := writeRange s.buf s.fill.toNat (blockBytes s.alg) fun _ => 0x00#8,
           fill := BitVec.ofNat 8 (blockBytes s.alg), cph := .load, pstage := .second }

/-- LEN (R328): zeros up to the length field, then the length field, big-endian. An MLEN of 2^L or more, which no state
that meets the invariant holds, gives its low L bits: DESIGN CHOICE, log entry 24. -/
def stepLen (s : State) : State :=
  { s with buf := writeRange
             (writeRange s.buf s.fill.toNat (blockBytes s.alg - lenBytes s.alg) fun _ => 0x00#8)
             (blockBytes s.alg - lenBytes s.alg) (blockBytes s.alg)
             fun i => beByte s.mlen.toNat (lenBytes s.alg) (i - (blockBytes s.alg - lenBytes s.alg)),
           fill := BitVec.ofNat 8 (blockBytes s.alg), cph := .load, pstage := .last }

/-- The padding step of PSTAGE (R321), enabled in BUSY_FINAL with CPH = IDLE. -/
def paddingStep (s : State) : Outcome :=
  match s.pstage with
  | .mark => if s.fill.toNat < blockBytes s.alg then .next (stepMark s) else .fault .sequencerStuck
  | .zfull => .next (stepZfull s)
  | .len => .next (stepLen s)
  | .none => .fault .sequencerStuck
  | .second => .fault .sequencerStuck
  | .last => .fault .sequencerStuck

/-- The step of a busy engine (R321). The states in which it is stuck are those the spec calls unreachable: log entry
8. -/
def busyStep (s : State) : Outcome :=
  match s.cph with
  | .load => .next (stepLoad s)
  | .expand => if 16 ≤ s.t.toNat ∧ s.t.toNat < rounds s.alg then .next (stepExpand s) else .fault .sequencerStuck
  | .round => if s.t.toNat < rounds s.alg then .next (stepRound s) else .fault .sequencerStuck
  | .fold => .next (stepFold s)
  | .idle => if s.mode = .busyFinal then paddingStep s else .fault .sequencerStuck

/-- The engine's turn: a step when busy, and none otherwise (R320, 60_exceptions.md R374). -/
def engineStep (s : State) : Outcome := if s.busy then busyStep s else .next s

end Sys2Proof.Machine
end

