-- ==== Sys2Proof/Machine/Step.lean ====
section
/-!
DEFINITION. One step of the machine: one transition of one agent (10_state.md R30). The engine fetches no instructions
(20_memory.md R88): a command is data the host writes to CMD, consumed at the write.
-/

namespace Sys2Proof.Machine

/-- One step. The next entry of `turns` says who moves; when it lists none, a busy engine moves and else the host
(20_memory.md R82; log entry 3). -/
def step (s : State) : Host.Outcome State Fault Refusal :=
  match s.turns with
  | .platform :: rest => .next (applyReset { s with turns := rest })
  | .engine :: rest => engineStep { s with turns := rest }
  | .host :: rest => hostTurn { s with turns := rest }
  | [] => if s.busy then engineStep s else hostTurn s

/-- `s` with the host's next move a write of the word to CMD: the step that follows decodes and runs it. -/
def State.withFetchWord (s : State) (nbits w : Nat) : State :=
  { s with host := .write (s.engineBase + 0x00) 4 (BitVec.ofNat 32 (w % 2 ^ nbits)) :: s.host,
           turns := .host :: s.turns }

end Sys2Proof.Machine
end

