-- ==== Sys2Proof/Machine/Assembler.lean ====
section
/-!
DEFINITION. The assembler's operations and pseudo-operations as the bus operations they expand to (30_encoding.md R109,
R110). Labels, tests and jumps are host software (R109).
-/

namespace Sys2Proof.Machine

/-- `WR reg, imm32` (R109). -/
def asmWrite (base : Nat) (r : HostReg) (imm : BitVec 32) : HostOp := .write (base + regOffset r) 4 imm

/-- `RD reg` (R109). -/
def asmRead (base : Nat) (r : HostReg) : HostOp := .read (base + regOffset r) 4

/-- The word of `PUSH n`, 0x00000002 + ((n−1) << 8) (R109). -/
def pushWord (n : Nat) : BitVec 32 := BitVec.ofNat 32 (2 + (n - 1) * 256)

/-- The word PUSHT writes to DATA: the tail's bytes from the most significant on, absent bytes 0 (R110). -/
def tailWord (tail : List (BitVec 8)) : BitVec 32 :=
  BitVec.ofNat 32
    ((tail.getD 0 0#8).toNat * 2 ^ 24 + (tail.getD 1 0#8).toNat * 2 ^ 16 + (tail.getD 2 0#8).toNat * 2 ^ 8)

/-- The expansion of a well-formed operation (R109, R110). -/
def expandAsm (base : Nat) : AsmOp → List HostOp
  | .wr r imm => [asmWrite base r imm]
  | .rd r => [asmRead base r]
  | .nop => [asmWrite base .cmd (encode .nop)]
  | .init a => [asmWrite base .cmd (encode (.init a.field))]
  | .push n => [asmWrite base .cmd (pushWord n)]
  | .finish => [asmWrite base .cmd (encode .finish)]
  | .setdata imm => [asmWrite base .data imm]
  | .pushw imm => [asmWrite base .data imm, asmWrite base .cmd (pushWord 4)]
  | .pusht tail => [asmWrite base .data (tailWord tail), asmWrite base .cmd (pushWord tail.length)]
  | .wait => [.wait]
  | .rdigest k => (List.range k).map fun i => .read (base + 0x40 + 4 * i) 4

/-- The bus operations of a host program without jumps; none if an operation is ill-formed. -/
def assemble (base : Nat) (ops : List AsmOp) : Option (List HostOp) :=
  if ops.all AsmOp.wf then some (ops.flatMap (expandAsm base)) else none

end Sys2Proof.Machine
end

