-- ==== Sys2Proof/Machine/Digest.lean ====
section
/-!
DEFINITION. The functions of the whole message the engine computes step by step: padding and segmentation
(42_padder_segmenter.md R190 to R199), the schedule of a block (43_schedule_expander.md R220), the compression of a block
and the digest (44_compressor.md R245, R247), and its rendering (R250, host software). No step of the machine calls
them: they are what 46_sequencer.md R330 compares it with.
-/

namespace Sys2Proof.Machine

/-- `lenfield(M)` for a message of n bytes (R191). -/
def lengthField (a : Alg) (n : Nat) : Nat := (8 * n) % 2 ^ lenBits a

/-- k, the zero bytes between 0x80 and the length field, for a message of n bytes (R192). -/
def padZeros (a : Alg) (n : Nat) : Nat :=
  (((blockBytes a : Int) - lenBytes a - 1 - n) % (blockBytes a : Int)).toNat

/-- `pad(M)`, the padded stream (R192). -/
def pad (a : Alg) (m : List (BitVec 8)) : List (BitVec 8) :=
  m ++ [0x80#8] ++ List.replicate (padZeros a m.length) 0x00#8 ++ beBytes (lengthField a m.length) (lenBytes a)

/-- N, the number of blocks of pad(M) for a message of n bytes (R193). -/
def blockCount (a : Alg) (n : Nat) : Nat := (n + lenBytes a) / blockBytes a + 1

/-- Block i of a padded stream: its 16 words (R197). -/
def segmentBlock (a : Alg) (p : List (BitVec 8)) (i : Nat) : List (BitVec 64) :=
  (List.range 16).map fun j => beWord (fun k => p.getD k 0#8) (16 * i + j) (wordBytes a)

/-- `segment(P)`: the blocks of a padded stream, in order (R197). -/
def segment (a : Alg) (p : List (BitVec 8)) : List (List (BitVec 64)) :=
  (List.range (p.length / blockBytes a)).map (segmentBlock a p)

/-- The first 16 words of a schedule are the block's words (R220). -/
def scheduleStart (words : List (BitVec 64)) : Vector (BitVec 64) 80 :=
  writeRange (Vector.replicate 80 0#64) 0 16 fun j => words.getD j 0#64

/-- One derived word added to a schedule (R220 to R223). -/
def scheduleExtend (a : Alg) (s : Vector (BitVec 64) 80) (t : Nat) : Vector (BitVec 64) 80 :=
  writeAt s t (expandWord a (fun i => readAt s i 0#64) t)

/-- `sched(Mw)`: words 16 .. T−1 derived in increasing t (R220, R225). -/
def schedule (a : Alg) (words : List (BitVec 64)) : Vector (BitVec 64) 80 :=
  (List.range (rounds a - 16)).foldl (fun s j => scheduleExtend a s (16 + j)) (scheduleStart words)

/-- The working state after the first n rounds of a block (R245). -/
def runRounds (a : Alg) (s : Vector (BitVec 64) 80) (v : Vector (BitVec 64) 8) (n : Nat) : Vector (BitVec 64) 8 :=
  (List.range n).foldl (fun v t => roundStep a t (readAt s t 0#64) v) v

/-- `compress(Hin, Mw)` (R245). -/
def compress (a : Alg) (h : Vector (BitVec 64) 8) (words : List (BitVec 64)) : Vector (BitVec 64) 8 :=
  foldHash a h (runRounds a (schedule a words) h (rounds a))

/-- The running hash state after all blocks (R247). -/
def digestState (a : Alg) (m : List (BitVec 8)) : Vector (BitVec 64) 8 :=
  (segment a (pad a m)).foldl (compress a) (initialHash a)

/-- `Digest(ALG, M)`: H[0 .. NH−1] (R247). -/
def digest (a : Alg) (m : List (BitVec 8)) : List (BitVec 64) := (digestState a m).toList.take (stateWords a)

/-- A lowercase hexadecimal digit. -/
def hexDigit (d : Nat) : Char := if d < 10 then Char.ofNat (48 + d) else Char.ofNat (87 + d)

/-- A word as exactly `digits` lowercase hexadecimal digits, most significant first (R250). -/
def renderWord (digits : Nat) (x : Nat) : List Char :=
  (List.range digits).map fun j => hexDigit (x / 16 ^ (digits - 1 - j) % 16)

/-- The digest as text: each word as W/4 digits, in state order (R250). -/
def render (a : Alg) (words : List (BitVec 64)) : String :=
  String.ofList (words.flatMap fun x => renderWord (wordBits a / 4) x.toNat)

end Sys2Proof.Machine
end

