-- ==== Sys2Proof/Safety.lean ====
section
/-!
DEFINITION. The words the statements are made of: what a step does (its event), what the engine's registers satisfy in
every reachable state (10_state.md R44), runs of the engine alone, and computations under any interleaving
(46_sequencer.md R330).
-/

namespace Sys2Proof.Machine

/-- What the next step of a state does. -/
inductive Event where
  /-- A platform reset (70_reset_and_hazards.md R390). -/
  | reset
  /-- An engine step of a busy engine (46_sequencer.md R320). -/
  | engineStep
  /-- Nothing: the engine's turn while it is not busy, or the host's with nothing pending. -/
  | idle
  /-- A write of a word to CMD (45_host_commands.md R280). -/
  | command (w : BitVec 32)
  /-- A write of DATA (R285). -/
  | dataWrite (value : BitVec 32)
  /-- A write to another offset of the window (R290). -/
  | ignoredWrite (off : Nat)
  /-- A read of the register at an offset (R286 to R289, R291). -/
  | read (off : Nat)
  /-- A poll of WAIT (30_encoding.md R110). -/
  | poll
  /-- A read outside the window (20_memory.md R70). -/
  | outsideRead
  /-- A write outside the window (R70). -/
  | outsideWrite
  /-- An access to the window outside the bus protocol (R77). -/
  | violation
deriving DecidableEq, Repr

/-- The event of a host operation. -/
def opEvent (base : Nat) : HostOp → Event
  | .wait => .poll
  | .read addr width =>
    match busTarget base addr width with
    | .outside => .outsideRead
    | .register off => .read off
    | .violation => .violation
  | .write addr width value =>
    match busTarget base addr width with
    | .outside => .outsideWrite
    | .register off =>
      if off = 0x00 then .command value else if off = 0x04 then .dataWrite value else .ignoredWrite off
    | .violation => .violation

/-- The event of the host's turn. -/
def hostEvent (s : State) : Event :=
  match s.host with
  | [] => .idle
  | op :: _ => opEvent s.engineBase op

/-- The event of the next step (20_memory.md R82). -/
def nextEvent (s : State) : Event :=
  match s.turns with
  | .platform :: _ => .reset
  | .engine :: _ => if s.busy then .engineStep else .idle
  | .host :: _ => hostEvent s
  | [] => if s.busy then .engineStep else hostEvent s

/-- The host moves next: it has the turn, or the turns list nothing and the engine is not busy (log entry 3). -/
def HostMoves (s : State) : Prop := s.turns.head? = some .host ∨ (s.turns = [] ∧ s.busy = false)

/-- `s` with the turn taken and the host's operation issued: the state a host access acts on. -/
def issued (s : State) : State := { s with turns := s.turns.tail, host := s.host.tail }

/-- `s` with the turn taken: the state an engine step or a reset acts on. -/
def turnTaken (s : State) : State := { s with turns := s.turns.tail }

/-- The engine's registers agree. -/
def SameEngine (s t : State) : Prop :=
  t.mode = s.mode ∧ t.alg = s.alg ∧ t.errcode = s.errcode ∧ t.data = s.data ∧ t.h = s.h ∧ t.v = s.v ∧ t.sch = s.sch
    ∧ t.buf = s.buf ∧ t.fill = s.fill ∧ t.mlen = s.mlen ∧ t.cph = s.cph ∧ t.t = s.t ∧ t.pstage = s.pstage

/-- The bus side agrees: ENGINE_BASE, what the host has pending and has read, the turns and the draws. -/
def SameBus (s t : State) : Prop :=
  t.engineBase = s.engineBase ∧ t.host = s.host ∧ t.turns = s.turns ∧ t.responses = s.responses ∧ t.draws = s.draws

/-- `t` is `s` after the error entry with code c (60_exceptions.md R362). -/
def ErrorEntered (c : ErrCode) (s t : State) : Prop :=
  t.mode = .error ∧ t.errcode = c ∧ t.cph = .idle ∧ t.t = 0#7 ∧ t.pstage = .none
    ∧ t.alg = s.alg ∧ t.data = s.data ∧ t.fill = s.fill ∧ t.mlen = s.mlen ∧ t.h = s.h ∧ t.v = s.v ∧ t.sch = s.sch
    ∧ t.buf = s.buf ∧ SameBus s t

/-- The four INIT words, the PUSH words and the ten legal words, as 30_encoding.md R105 lists them. -/
def initWords : List (BitVec 32) := [0x00000001#32, 0x00000011#32, 0x00000021#32, 0x00000031#32]

/-- The PUSH words (R105). -/
def pushWords : List (BitVec 32) := [0x00000002#32, 0x00000102#32, 0x00000202#32, 0x00000302#32]

/-- The ten legal words (R105). -/
def legalWords : List (BitVec 32) := 0x00000000#32 :: 0x00000003#32 :: (initWords ++ pushWords)

/-- PUSH or FINISH (60_exceptions.md R365). -/
def pushOrFinish (w : BitVec 32) : Bool := pushWords.contains w || w == 0x00000003#32

/-- The error a CMD write raises, by the order of 60_exceptions.md R365. -/
def errorByPriority (w : BitVec 32) (s : State) : Option ErrCode :=
  if s.mode = .error ∧ w ∉ initWords then none
  else if w ∉ legalWords then some .illegalCmd
  else if w = 0x00000031#32 then some .illegalAlg
  else if pushOrFinish w ∧ s.mode = .uninit then some .notInit
  else if pushOrFinish w ∧ s.busy then some .busy
  else if pushOrFinish w ∧ s.mode = .done then some .afterDone
  else if w ∈ pushWords ∧ s.mode = .accept ∧ s.fill.toNat + (w.toNat / 256 % 4 + 1) > blockBytes s.alg then some .overrun
  else none

/-- A computation is in progress or complete, so that H and MLEN hold its values (10_state.md R52). -/
def Mode.active : Mode → Bool
  | .accept => true
  | .busyBlock => true
  | .busyFinal => true
  | .done => true
  | .uninit => false
  | .error => false

/-- Where t may stand in each phase (10_state.md R42; 46_sequencer.md R322 to R325). -/
def phaseIndexOk (a : Alg) (p : Phase) (t : Nat) : Prop :=
  match p with
  | .idle => t = 0
  | .load => t = 0
  | .expand => 16 ≤ t ∧ t < rounds a
  | .round => t < rounds a
  | .fold => t = rounds a

/-- How many words of S the current block has written, in each phase (R322, R323). -/
def scheduleWritten (a : Alg) (p : Phase) (t : Nat) : Nat :=
  match p with
  | .idle => 0
  | .load => 0
  | .expand => t
  | .round => rounds a
  | .fold => rounds a

/-- The working state holds this block's values (R322, R324). -/
def Phase.working : Phase → Bool
  | .expand => true
  | .round => true
  | .fold => true
  | .idle => false
  | .load => false

/-- The value invariants of 10_state.md R44, with the ranges the step rules give (R322 to R328). -/
structure Inv (s : State) : Prop where
  /-- ENGINE_BASE is a multiple of 128 (20_memory.md R70). -/
  base_aligned : s.engineBase % 128 = 0
  /-- FILL ≤ B/8. -/
  fill_le : s.fill.toNat ≤ blockBytes s.alg
  /-- ERRCODE is 0 whenever STATE is not ERROR, and only then (60_exceptions.md R361). -/
  errcode_iff : s.errcode = .noError ↔ s.mode ≠ .error
  /-- In UNINIT, ALG is 0 and FILL is 0 (R51). -/
  uninit_fresh : s.mode = .uninit → s.alg = .sha1 ∧ s.fill = 0#8
  /-- Not busy: CPH = IDLE, t = 0 and PSTAGE = NONE. -/
  idle_unless_busy : s.busy = false → s.cph = .idle ∧ s.t = 0#7 ∧ s.pstage = .none
  /-- BUSY_BLOCK: PSTAGE = NONE and CPH ≠ IDLE. -/
  busyBlock_stage : s.mode = .busyBlock → s.pstage = .none ∧ s.cph ≠ .idle
  /-- BUSY_FINAL with CPH = IDLE: PSTAGE is MARK, ZFULL or LEN. -/
  busyFinal_idle : s.mode = .busyFinal → s.cph = .idle → s.pstage = .mark ∨ s.pstage = .zfull ∨ s.pstage = .len
  /-- BUSY_FINAL with CPH ≠ IDLE: PSTAGE is SECOND or LAST (10_state.md R43). -/
  busyFinal_block : s.mode = .busyFinal → s.cph ≠ .idle → s.pstage = .second ∨ s.pstage = .last
  /-- CPH ≠ IDLE: FILL = B/8. -/
  full_block : s.cph ≠ .idle → s.fill.toNat = blockBytes s.alg
  /-- ACCEPT: FILL < B/8 (R39). -/
  accept_room : s.mode = .accept → s.fill.toNat < blockBytes s.alg
  /-- MARK: FILL < B/8 (46_sequencer.md R326). -/
  mark_room : s.pstage = .mark → s.fill.toNat < blockBytes s.alg
  /-- LEN: FILL ≤ B/8 − L/8 (R328). -/
  len_room : s.pstage = .len → s.fill.toNat ≤ blockBytes s.alg - lenBytes s.alg
  /-- t is in the range of its phase. -/
  phase_index : phaseIndexOk s.alg s.cph s.t.toNat
  /-- H holds W-bit words, and 0 from NH up (R35). -/
  h_words : s.mode.active = true → ∀ i, i < 8 →
    (readAt s.h i 0#64).toNat < 2 ^ wordBits s.alg ∧ (stateWords s.alg ≤ i → readAt s.h i 0#64 = 0#64)
  /-- MLEN < 2^L. -/
  mlen_lt : s.mode.active = true → s.mlen.toNat < 2 ^ lenBits s.alg
  /-- V[0 .. NH−1] hold W-bit words once LOAD has written them. -/
  v_words : s.cph.working = true → ∀ i, i < stateWords s.alg → (readAt s.v i 0#64).toNat < 2 ^ wordBits s.alg
  /-- The written part of S holds W-bit words. -/
  s_words : ∀ i, i < scheduleWritten s.alg s.cph s.t.toNat → (readAt s.sch i 0#64).toNat < 2 ^ wordBits s.alg

/-- n turns of the engine, stopping where it is stuck. -/
def engineRun : Nat → State → Outcome
  | 0, s => .next s
  | n + 1, s =>
    match engineStep s with
    | .next t => engineRun n t
    | .fault r => .fault r
    | .refused r => .refused r

/-- The engine steps one block takes: LOAD, T − 16 EXPAND, T ROUND, FOLD (46_sequencer.md R331). -/
def blockSteps (a : Alg) : Nat := 2 * rounds a - 14

/-- The engine steps FINISH takes with r message bytes in the buffer (R331). -/
def finishSteps (a : Alg) (r : Nat) : Nat :=
  if r ≤ blockBytes a - lenBytes a - 1 then 2 + blockSteps a else 3 + 2 * blockSteps a

/-- The block in BUF, as LOAD reads it (R322). -/
def bufferBlock (s : State) : List (BitVec 64) :=
  (List.range 16).map fun j => beWord (fun k => readAt s.buf k 0#8) j (wordBytes s.alg)

/-- An event that is no CMD write, no reset and no LOAD. -/
def Quiet (s : State) : Prop :=
  nextEvent s ≠ .reset ∧ (∀ w, nextEvent s ≠ .command w) ∧ ¬ (nextEvent s = .engineStep ∧ s.cph = .load)

/-- A computation under any interleaving (R330). `Computes a m blocks finished s`: from some state the host wrote a legal
INIT(a), then PUSH commands that delivered the bytes `m` in order, each in ACCEPT and within the block, then FINISH in
ACCEPT if `finished`, with no other CMD write and no reset in between, and the LOAD steps so far read `blocks`. Every
other step (engine steps, DATA writes, reads, polls, idle turns, accesses elsewhere) may come between. -/
inductive Computes (a : Alg) : List (BitVec 8) → List (List (BitVec 64)) → Bool → State → Prop where
  | start {s t : State} : nextEvent s = .command (encode (.init a.field)) → step s = .next t → Computes a [] [] false t
  | push {m : List (BitVec 8)} {blocks : List (List (BitVec 64))} {s t : State} {nb : BitVec 2} :
      Computes a m blocks false s → nextEvent s = .command (encode (.push nb)) → s.mode = .accept →
      s.fill.toNat + pushCount nb ≤ blockBytes a → step s = .next t →
      Computes a (m ++ dataBytes s.data (pushCount nb)) blocks false t
  | finish {m : List (BitVec 8)} {blocks : List (List (BitVec 64))} {s t : State} :
      Computes a m blocks false s → nextEvent s = .command (encode .finish) → s.mode = .accept → step s = .next t →
      Computes a m blocks true t
  | load {m : List (BitVec 8)} {blocks : List (List (BitVec 64))} {finished : Bool} {s t : State} :
      Computes a m blocks finished s → nextEvent s = .engineStep → s.cph = .load → step s = .next t →
      Computes a m (blocks ++ [bufferBlock s]) finished t
  | quiet {m : List (BitVec 8)} {blocks : List (List (BitVec 64))} {finished : Bool} {s t : State} :
      Computes a m blocks finished s → Quiet s → step s = .next t → Computes a m blocks finished t

/-- The operations that deliver a message four bytes at a time with a WAIT after each PUSH (30_encoding.md R110,
70_reset_and_hazards.md R393). -/
def messageOps : List (BitVec 8) → List AsmOp
  | b0 :: b1 :: b2 :: b3 :: rest => .pushw (b0 ++ b1 ++ b2 ++ b3) :: .wait :: messageOps rest
  | [] => []
  | tail => [.pusht tail, .wait]

/-- The registers of a digest, NH × W/32 of them (10_state.md R50). -/
def digestRegisterCount (a : Alg) : Nat := digestBits a / 32

/-- The host program of one computation, in the order 70_reset_and_hazards.md R392 requires. -/
def hostProgram (a : Alg) (m : List (BitVec 8)) : List AsmOp :=
  .init a :: messageOps m ++ [.finish, .wait, .rdigest (digestRegisterCount a)]

/-- The digest as the DIGEST registers show it (10_state.md R50). -/
def digestRegisters (a : Alg) (m : List (BitVec 8)) : List (BitVec 32) :=
  (digest a m).flatMap fun x => if wordBits a = 32 then [low32 x] else [low32 (x >>> 32), low32 x]

end Sys2Proof.Machine
end

