-- ==== Sys2Proof/Certificates/Slice0/Obligations.lean ====
section
/-!
DEFINITION. The statements for the provers: one `def Obligations.<Name> : Prop` each, listed in OBLIGATIONS.json.
-/

open Sys2Proof Sys2Proof.Machine

/-! ## Encoding (30_encoding.md) -/

/-- The ten legal words of R105 and their commands, word by word. -/
def Obligations.DecodesTheTenLegalWords : Prop :=
  decode 0x00000000#32 = .command .nop ∧ decode 0x00000003#32 = .command .finish
    ∧ decode 0x00000001#32 = .command (.init 0#2) ∧ decode 0x00000011#32 = .command (.init 1#2)
    ∧ decode 0x00000021#32 = .command (.init 2#2) ∧ decode 0x00000031#32 = .command (.init 3#2)
    ∧ decode 0x00000002#32 = .command (.push 0#2) ∧ decode 0x00000102#32 = .command (.push 1#2)
    ∧ decode 0x00000202#32 = .command (.push 2#2) ∧ decode 0x00000302#32 = .command (.push 3#2)

/-- R107: every word is one of the ten legal words or illegal. -/
def Obligations.LegalWordsAreExactlyTen : Prop :=
  ∀ w : BitVec 32, (∃ i, decode w = .command i) ↔
    w ∈ [0x00000000#32, 0x00000001#32, 0x00000011#32, 0x00000021#32, 0x00000031#32, 0x00000002#32, 0x00000102#32,
      0x00000202#32, 0x00000302#32, 0x00000003#32]

/-- Decoding and encoding agree both ways: a word decodes to a command exactly when it is the command's encoding, with
every operand at every value (rests on R104 and R105). -/
def Obligations.DecodeAndEncodeAgree : Prop :=
  ∀ (w : BitVec 32) (i : Instr), decode w = .command i ↔ w = encode i

/-- R106: which words are illegal, by their fields, and what writing one to CMD does. -/
def Obligations.IllegalWordsRaiseIllegalCmd : Prop :=
  ∀ w : BitVec 32,
    ((∃ why, decode w = .illegal why) ↔
      4 ≤ w.toNat % 16 ∨ w.toNat / 64 % 4 ≠ 0 ∨ w.toNat / 1024 ≠ 0
        ∨ (w.toNat / 16 % 4 ≠ 0 ∧ w.toNat % 16 ≠ 1) ∨ (w.toNat / 256 % 4 ≠ 0 ∧ w.toNat % 16 ≠ 2))
    ∧ ∀ (why : IllegalWord) (s : State), decode w = .illegal why →
        (s.mode ≠ .error → ∃ t, writeCmd w s = .next t ∧ ErrorEntered .illegalCmd s t)
        ∧ (s.mode = .error → writeCmd w s = .next s)

/-- A step runs the decoded command: when the host moves and its next operation writes a word to CMD, the step is the
meaning of the decoded command, or of an illegal word, on the state with that operation issued; and the state
`withFetchWord` builds runs its word from `s` itself. The names HostMoves and issued are the model's own, log entries 3
and 4. -/
def Obligations.StepRunsTheDecodedCommand : Prop :=
  ∀ s : State, s.engineBase % 128 = 0 →
    (∀ (w : BitVec 32) (rest : List HostOp), HostMoves s → s.host = .write s.engineBase 4 w :: rest →
      (∀ i, decode w = .command i → step s = exec i (issued s))
      ∧ (∀ why, decode w = .illegal why → step s = illegalCommand (issued s)))
    ∧ (∀ (w : BitVec 32) (i : Instr), decode w = .command i → step (s.withFetchWord 32 w.toNat) = exec i s)

/-! ## Commands (45_host_commands.md) and errors (60_exceptions.md) -/

/-- R281: NOP completes in every state and changes nothing. -/
def Obligations.NopChangesNothing : Prop := ∀ s : State, exec .nop s = .next s

/-- R282: INIT with a legal ALG field starts a computation in every state, with the words of R171, R172 or R173 in H and 0
from NH up; with 3 it raises ILLEGAL_ALG in every state. DATA, BUF, V and S are not written. The spec supplies the words
from general knowledge: UNVERIFIED, log entry 10. -/
def Obligations.InitStartsAComputation : Prop :=
  ∀ s : State,
    (∀ (a : Alg) (x : BitVec 2), x.toNat = (match a with | .sha1 => 0 | .sha256 => 1 | .sha512 => 2) →
      ∃ t, exec (.init x) s = .next t
        ∧ t.mode = .accept ∧ t.alg = a ∧ t.errcode = .noError
        ∧ (∀ i, i < 8 → readAt t.h i 0#64 =
            (match a with
             | .sha1 => [0x67452301#64, 0xefcdab89#64, 0x98badcfe#64, 0x10325476#64, 0xc3d2e1f0#64]
             | .sha256 => [0x6a09e667#64, 0xbb67ae85#64, 0x3c6ef372#64, 0xa54ff53a#64, 0x510e527f#64, 0x9b05688c#64,
                 0x1f83d9ab#64, 0x5be0cd19#64]
             | .sha512 => [0x6a09e667f3bcc908#64, 0xbb67ae8584caa73b#64, 0x3c6ef372fe94f82b#64, 0xa54ff53a5f1d36f1#64,
                 0x510e527fade682d1#64, 0x9b05688c2b3e6c1f#64, 0x1f83d9abfb41bd6b#64, 0x5be0cd19137e2179#64]).getD i 0#64)
        ∧ (∀ i, i < 8 → readAt t.h i 0#64 = if i < stateWords a then initialWord a i else 0#64)
        ∧ t.h = initialHash a
        ∧ t.fill = 0#8 ∧ t.mlen = 0#128 ∧ t.cph = .idle ∧ t.t = 0#7 ∧ t.pstage = .none
        ∧ t.data = s.data ∧ t.buf = s.buf ∧ t.v = s.v ∧ t.sch = s.sch ∧ SameBus s t)
    ∧ (∀ x : BitVec 2, x.toNat = 3 → ∃ t, exec (.init x) s = .next t ∧ ErrorEntered .illegalAlg s t)

/-- R283: PUSH in ACCEPT appends its bytes, most significant byte of DATA first, and a full block starts its
compression; a PUSH past the block's end raises OVERRUN and takes no byte; in the other states it raises the error of
the state. The clause for ERROR is R280's. -/
def Obligations.PushAppendsOrRaises : Prop :=
  ∀ (s : State) (nb : BitVec 2),
    (s.mode = .accept → s.fill.toNat + (nb.toNat + 1) ≤ blockBytes s.alg →
      ∃ t, exec (.push nb) s = .next t
        ∧ (∀ k, k < nb.toNat + 1 → readAt t.buf (s.fill.toNat + k) 0#8 = s.data.extractLsb' (24 - 8 * k) 8)
        ∧ (∀ j, j < s.fill.toNat ∨ s.fill.toNat + (nb.toNat + 1) ≤ j → readAt t.buf j 0#8 = readAt s.buf j 0#8)
        ∧ t.fill.toNat = s.fill.toNat + (nb.toNat + 1)
        ∧ t.mlen.toNat = (s.mlen.toNat + 8 * (nb.toNat + 1)) % 2 ^ lenBits s.alg
        ∧ (s.fill.toNat + (nb.toNat + 1) = blockBytes s.alg → t.mode = .busyBlock ∧ t.cph = .load)
        ∧ (s.fill.toNat + (nb.toNat + 1) ≠ blockBytes s.alg → t.mode = .accept ∧ t.cph = s.cph)
        ∧ t.alg = s.alg ∧ t.errcode = s.errcode ∧ t.data = s.data ∧ t.h = s.h ∧ t.v = s.v ∧ t.sch = s.sch
        ∧ t.t = s.t ∧ t.pstage = s.pstage ∧ SameBus s t)
    ∧ (s.mode = .accept → blockBytes s.alg < s.fill.toNat + (nb.toNat + 1) →
        ∃ t, exec (.push nb) s = .next t ∧ ErrorEntered .overrun s t)
    ∧ (s.mode = .uninit → ∃ t, exec (.push nb) s = .next t ∧ ErrorEntered .notInit s t)
    ∧ (s.mode = .busyBlock ∨ s.mode = .busyFinal → ∃ t, exec (.push nb) s = .next t ∧ ErrorEntered .busy s t)
    ∧ (s.mode = .done → ∃ t, exec (.push nb) s = .next t ∧ ErrorEntered .afterDone s t)
    ∧ (s.mode = .error → exec (.push nb) s = .next s)

/-- R284: FINISH in ACCEPT starts the padding and writes STATE and PSTAGE only; in the other states it raises the error of
the state. The clause for ERROR is R280's, whose dispatch of a CMD write follows: ERROR ignores every word but an INIT word,
an illegal word elsewhere raises ILLEGAL_CMD, and any other word performs its command. -/
def Obligations.FinishStartsPaddingOrRaises : Prop :=
  ∀ s : State,
    (s.mode = .accept → ∃ t, exec .finish s = .next t
      ∧ t.mode = .busyFinal ∧ t.pstage = .mark
      ∧ t.alg = s.alg ∧ t.errcode = s.errcode ∧ t.data = s.data ∧ t.h = s.h ∧ t.v = s.v ∧ t.sch = s.sch
      ∧ t.buf = s.buf ∧ t.fill = s.fill ∧ t.mlen = s.mlen ∧ t.cph = s.cph ∧ t.t = s.t ∧ SameBus s t)
    ∧ (s.mode = .uninit → ∃ t, exec .finish s = .next t ∧ ErrorEntered .notInit s t)
    ∧ (s.mode = .busyBlock ∨ s.mode = .busyFinal → ∃ t, exec .finish s = .next t ∧ ErrorEntered .busy s t)
    ∧ (s.mode = .done → ∃ t, exec .finish s = .next t ∧ ErrorEntered .afterDone s t)
    ∧ (s.mode = .error → exec .finish s = .next s)
    ∧ ∀ w : BitVec 32,
        (s.mode = .error → (∀ a, decode w ≠ .command (.init a)) → writeCmd w s = .next s)
        ∧ (s.mode ≠ .error → ∀ why, decode w = .illegal why →
            ∃ t, writeCmd w s = .next t ∧ ErrorEntered .illegalCmd s t)
        ∧ (∀ i, decode w = .command i → (s.mode ≠ .error ∨ ∃ a, i = .init a) → writeCmd w s = exec i s)

/-- R362: whatever CMD word raises an error, the transition writes STATE, ERRCODE, CPH, t and PSTAGE only, and no engine
step is enabled after it. -/
def Obligations.ErrorEntryWritesFiveRegisters : Prop :=
  ∀ (w : BitVec 32) (s t : State), writeCmd w s = .next t → t.mode = .error →
    (s.mode ≠ .error ∨ w = 0x00000031#32) →
    ErrorEntered t.errcode s t ∧ t.errcode ≠ .noError ∧ engineStep t = .next t

/-- R363: in ERROR every CMD write but an INIT word is ignored, DATA writes take effect, STATUS shows 5, ALG, ERRCODE and
no FILL, DIGEST reads 0 and no engine step occurs. -/
def Obligations.ErrorStateIgnoresAllButInit : Prop :=
  ∀ s : State, s.mode = .error →
    (∀ w : BitVec 32, w ∉ [0x00000001#32, 0x00000011#32, 0x00000021#32, 0x00000031#32] → writeCmd w s = .next s)
    ∧ (∀ value : BitVec 32, writeRegister 0x04 value s = .next { s with data := value })
    ∧ (readRegister 0x08 s).extractLsb' 0 3 = 5#3 ∧ (readRegister 0x08 s).extractLsb' 4 2 = algCode s.alg
    ∧ (readRegister 0x08 s).extractLsb' 8 4 = errCode s.errcode ∧ (readRegister 0x08 s).extractLsb' 16 8 = 0#8
    ∧ (∀ i, i < 16 → readRegister (0x40 + 4 * i) s = 0#32)
    ∧ engineStep s = .next s

/-- R364: ERROR is left by a legal INIT, which starts a fresh computation, or by reset, and by nothing else; the INIT word
0x00000031 raises ILLEGAL_ALG again. -/
def Obligations.ErrorIsLeftByInitOrReset : Prop :=
  ∀ s : State, s.mode = .error →
    (∀ (a : Alg) (w : BitVec 32),
      w = (match a with | .sha1 => 0x00000001#32 | .sha256 => 0x00000011#32 | .sha512 => 0x00000021#32) →
      ∃ t, writeCmd w s = .next t ∧ exec (.init a.field) s = .next t ∧ t.mode = .accept ∧ t.errcode = .noError)
    ∧ (∃ t, writeCmd 0x00000031#32 s = .next t ∧ ErrorEntered .illegalAlg s t)
    ∧ (∀ t, step s = .next t → t.mode ≠ .error →
        nextEvent s = .reset ∨ nextEvent s = .command 0x00000001#32 ∨ nextEvent s = .command 0x00000011#32
          ∨ nextEvent s = .command 0x00000021#32)

/-- R365: the error a CMD write raises is the first that applies in the priority order, and none applies where the order
names none. -/
def Obligations.CmdWritesRaiseErrorsByPriority : Prop :=
  ∀ (w : BitVec 32) (s : State), ∃ t, writeCmd w s = .next t
    ∧ (match errorByPriority w s with
       | some c => ErrorEntered c s t
       | none => t.mode = .error → t = s)

/-- Every error comes from a CMD write: no step of another kind enters ERROR (the first sentence after the table's header
in R361). -/
def Obligations.OnlyCmdWritesRaiseErrors : Prop :=
  ∀ s t : State, step s = .next t → s.mode ≠ .error → t.mode = .error →
    ∃ w, nextEvent s = .command w ∧ t.errcode ≠ .noError

/-! ## Register accesses (45_host_commands.md; 10_state.md R49, R50) -/

/-- R286 to R289, R291: a read of DATA, STATUS, DIGEST[i], CMD or a reserved offset completes, returns the register's
value and changes no state of the engine. -/
def Obligations.RegisterReadsReturnValues : Prop :=
  ∀ (s : State) (off : Nat) (rest : List HostOp), s.engineBase % 128 = 0 → off % 4 = 0 → off < 128 → HostMoves s →
    s.host = .read (s.engineBase + off) 4 :: rest →
    ∃ (t : State) (value : BitVec 32), step s = .next t ∧ SameEngine s t
      ∧ t.engineBase = s.engineBase ∧ t.host = rest ∧ t.turns = s.turns.tail ∧ t.draws = s.draws
      ∧ t.responses = value :: s.responses
      ∧ (off = 0x00 → value = 0#32) ∧ (off = 0x04 → value = s.data) ∧ (off = 0x08 → value = statusWord s)
      ∧ (0x0C ≤ off ∧ off ≤ 0x3C → value = 0#32)
      ∧ (∀ i, i < 16 → off = 0x40 + 4 * i → value = digestWord s i)

/-- R290: a write to STATUS, to a DIGEST register or to a reserved offset changes no state and is no error. -/
def Obligations.WritesElsewhereAreIgnored : Prop :=
  ∀ (s : State) (off : Nat) (value : BitVec 32) (rest : List HostOp), s.engineBase % 128 = 0 → off % 4 = 0 →
    0x08 ≤ off → off < 128 → HostMoves s → s.host = .write (s.engineBase + off) 4 value :: rest →
    ∃ t, step s = .next t ∧ SameEngine s t ∧ t.engineBase = s.engineBase ∧ t.host = rest ∧ t.turns = s.turns.tail
      ∧ t.responses = s.responses ∧ t.draws = s.draws

/-- R285: a write of DATA writes DATA only, in every state. -/
def Obligations.DataWriteWritesOnlyData : Prop :=
  ∀ (s : State) (value : BitVec 32) (rest : List HostOp), s.engineBase % 128 = 0 → HostMoves s →
    s.host = .write (s.engineBase + 0x04) 4 value :: rest →
    ∃ t, step s = .next t ∧ t.data = value ∧ SameEngine { s with data := value } t
      ∧ t.engineBase = s.engineBase ∧ t.host = rest ∧ t.turns = s.turns.tail ∧ t.responses = s.responses
      ∧ t.draws = s.draws

/-- R49: the value of STATUS, field by field; FILL shows in ACCEPT only and every other bit is 0. -/
def Obligations.StatusShowsItsFields : Prop :=
  ∀ s : State, (statusWord s).toNat =
    (match s.mode with | .uninit => 0 | .accept => 1 | .busyBlock => 2 | .busyFinal => 3 | .done => 4 | .error => 5)
      + 2 ^ 4 * (match s.alg with | .sha1 => 0 | .sha256 => 1 | .sha512 => 2)
      + 2 ^ 8 * (match s.errcode with
        | .noError => 0 | .illegalCmd => 1 | .illegalAlg => 2 | .notInit => 3 | .busy => 4 | .afterDone => 5
        | .overrun => 6)
      + 2 ^ 16 * (if s.mode = .accept then s.fill.toNat else 0)

/-- R50: the value of DIGEST[i]. -/
def Obligations.DigestRegistersShowTheHash : Prop :=
  ∀ (s : State) (i : Nat), i < 16 →
    (s.mode ≠ .done → digestWord s i = 0#32)
    ∧ (s.mode = .done → s.alg = .sha1 → digestWord s i = if i < 5 then (readAt s.h i 0#64).extractLsb' 0 32 else 0#32)
    ∧ (s.mode = .done → s.alg = .sha256 →
        digestWord s i = if i < 8 then (readAt s.h i 0#64).extractLsb' 0 32 else 0#32)
    ∧ (s.mode = .done → s.alg = .sha512 →
        digestWord s i = if i % 2 = 0 then (readAt s.h (i / 2) 0#64).extractLsb' 32 32
          else (readAt s.h ((i - 1) / 2) 0#64).extractLsb' 0 32)

/-- An access that touches the window, wherever it starts, and is not 4 bytes wide or not at a multiple of 4 is refused by
name (rests on R77; that only accesses which touch the window are refused, and that one partly inside it counts as such, is
the model's: DEDUCED, log entry 7). -/
def Obligations.AccessesOutsideTheProtocolAreRefused : Prop :=
  ∀ (s : State) (addr width : Nat) (value : BitVec 32) (rest : List HostOp), s.engineBase % 128 = 0 →
    s.engineBase < addr + width → addr < s.engineBase + 128 → (width ≠ 4 ∨ addr % 4 ≠ 0) → HostMoves s →
    (s.host = .read addr width :: rest ∨ s.host = .write addr width value :: rest) →
    step s = .refused .accessOutsideProtocol

/-- An access that reaches no byte of the window changes no register of the engine; the value a read returns is free
(rests on R70; log entry 6). -/
def Obligations.AccessesElsewhereLeaveTheEngineAlone : Prop :=
  ∀ (s : State) (addr width : Nat) (value : BitVec 32) (rest : List HostOp),
    (addr + width ≤ s.engineBase ∨ s.engineBase + 128 ≤ addr) → HostMoves s →
    (s.host = .read addr width :: rest ∨ s.host = .write addr width value :: rest) →
    ∃ t, step s = .next t ∧ SameEngine s t ∧ t.engineBase = s.engineBase ∧ t.host = rest ∧ t.turns = s.turns.tail

/-- WAIT reads STATUS once a turn and stays pending while the value shows a busy state (rests on R110 and R86; log entry
11). -/
def Obligations.WaitPollsStatus : Prop :=
  ∀ (s : State) (rest : List HostOp), HostMoves s → s.host = .wait :: rest →
    ∃ t, step s = .next t ∧ SameEngine s t ∧ t.engineBase = s.engineBase ∧ t.turns = s.turns.tail ∧ t.draws = s.draws
      ∧ t.responses = statusWord s :: s.responses ∧ t.host = if s.busy then .wait :: rest else rest

/-- The assembler's operations expand to the bus operations R109 and R110 list, WR and RD at the offset of each named
register. That WAIT expands to one pending operation, which polls as R110 writes out, is DEDUCED, log entry 11. -/
def Obligations.AssemblerExpansions : Prop :=
  ∀ (base : Nat) (imm : BitVec 32) (b0 b1 b2 : BitVec 8),
    expandAsm base (.wr .cmd imm) = [.write (base + 0x00) 4 imm] ∧ expandAsm base (.rd .cmd) = [.read (base + 0x00) 4]
    ∧ expandAsm base (.wr .data imm) = [.write (base + 0x04) 4 imm] ∧ expandAsm base (.rd .data) = [.read (base + 0x04) 4]
    ∧ expandAsm base (.wr .status imm) = [.write (base + 0x08) 4 imm]
    ∧ expandAsm base (.rd .status) = [.read (base + 0x08) 4]
    ∧ (∀ i : Fin 16, expandAsm base (.wr (.digest i) imm) = [.write (base + 0x40 + 4 * i.val) 4 imm]
        ∧ expandAsm base (.rd (.digest i)) = [.read (base + 0x40 + 4 * i.val) 4])
    ∧ expandAsm base .nop = [.write base 4 0x00000000#32]
    ∧ expandAsm base (.init .sha1) = [.write base 4 0x00000001#32]
    ∧ expandAsm base (.init .sha256) = [.write base 4 0x00000011#32]
    ∧ expandAsm base (.init .sha512) = [.write base 4 0x00000021#32]
    ∧ (∀ n, 1 ≤ n → n ≤ 4 → ∃ nb : BitVec 2, nb.toNat + 1 = n ∧ expandAsm base (.push n) = [.write base 4 (encode (.push nb))])
    ∧ expandAsm base .finish = [.write base 4 0x00000003#32]
    ∧ expandAsm base (.setdata imm) = [.write (base + 0x04) 4 imm]
    ∧ expandAsm base (.pushw imm) = [.write (base + 0x04) 4 imm, .write base 4 0x00000302#32]
    ∧ expandAsm base (.pusht [b0]) = [.write (base + 0x04) 4 (b0 ++ 0#24), .write base 4 0x00000002#32]
    ∧ expandAsm base (.pusht [b0, b1]) = [.write (base + 0x04) 4 (b0 ++ b1 ++ 0#16), .write base 4 0x00000102#32]
    ∧ expandAsm base (.pusht [b0, b1, b2])
        = [.write (base + 0x04) 4 (b0 ++ b1 ++ b2 ++ 0#8), .write base 4 0x00000202#32]
    ∧ expandAsm base .wait = [.wait]
    ∧ (∀ k, (expandAsm base (.rdigest k)).length = k
        ∧ ∀ i, i < k → (expandAsm base (.rdigest k))[i]? = some (.read (base + 0x40 + 4 * i) 4))

/-! ## Reset (70_reset_and_hazards.md) -/

/-- R390: a platform reset in any state puts every register the table gives a value to that value; no engine step is
enabled after it, and no CMD word resets the engine. Nothing is said of H, V, S, BUF and MLEN, which the rule leaves
unspecified. That a reset is a turn and keeps ENGINE_BASE, what the host has pending and what it has read is the model's
choice: DESIGN CHOICE, log entries 3, 4, 5 and 14. -/
def Obligations.PlatformResetPutsTheTableValues : Prop :=
  (∀ (s : State) (rest : List Agent), s.turns = .platform :: rest →
    ∃ t, step s = .next t
      ∧ t.mode = .uninit ∧ t.alg = .sha1 ∧ t.errcode = .noError ∧ t.data = 0#32 ∧ t.fill = 0#8 ∧ t.cph = .idle
      ∧ t.t = 0#7 ∧ t.pstage = .none
      ∧ t.engineBase = s.engineBase ∧ t.host = s.host ∧ t.turns = rest ∧ t.responses = s.responses
      ∧ readRegister 0x08 t = 0#32 ∧ readRegister 0x04 t = 0#32 ∧ readRegister 0x00 t = 0#32
      ∧ (∀ i, i < 16 → readRegister (0x40 + 4 * i) t = 0#32)
      ∧ engineStep t = .next t)
  ∧ ∀ (w : BitVec 32) (s t : State), writeCmd w s = .next t → t.mode = .uninit → s.mode = .uninit

/-- The state after reset holds the values R51's table gives, reads as R51 says and waits for the host. It rests on no
value of log entry 1. -/
def Obligations.ResetStateHoldsTheTable : Prop :=
  State.reset.mode = .uninit ∧ State.reset.alg = .sha1 ∧ State.reset.errcode = .noError
    ∧ State.reset.data = 0#32 ∧ State.reset.fill = 0#8 ∧ State.reset.cph = .idle ∧ State.reset.t = 0#7
    ∧ State.reset.pstage = .none
    ∧ readRegister 0x08 State.reset = 0#32 ∧ readRegister 0x04 State.reset = 0#32
    ∧ (∀ i, i < 16 → readRegister (0x40 + 4 * i) State.reset = 0#32)
    ∧ step State.reset = .next State.reset

/-! ## Engine steps (46_sequencer.md) -/

/-- LOAD (R322): the block's big-endian words into S[0..15], H into V[0 .. NH−1]. -/
def Obligations.LoadSegmentsTheBuffer : Prop :=
  ∀ s : State, s.busy = true → s.cph = .load →
    ∃ t, engineStep s = .next t
      ∧ (s.alg ≠ .sha512 → ∀ j, j < 16 → readAt t.sch j 0#64 =
          (readAt s.buf (4 * j) 0#8 ++ readAt s.buf (4 * j + 1) 0#8 ++ readAt s.buf (4 * j + 2) 0#8
            ++ readAt s.buf (4 * j + 3) 0#8).setWidth 64)
      ∧ (s.alg = .sha512 → ∀ j, j < 16 → readAt t.sch j 0#64 =
          (readAt s.buf (8 * j) 0#8 ++ readAt s.buf (8 * j + 1) 0#8 ++ readAt s.buf (8 * j + 2) 0#8
            ++ readAt s.buf (8 * j + 3) 0#8 ++ readAt s.buf (8 * j + 4) 0#8 ++ readAt s.buf (8 * j + 5) 0#8
            ++ readAt s.buf (8 * j + 6) 0#8 ++ readAt s.buf (8 * j + 7) 0#8).setWidth 64)
      ∧ (∀ j, 16 ≤ j → readAt t.sch j 0#64 = readAt s.sch j 0#64)
      ∧ (∀ i, i < stateWords s.alg → readAt t.v i 0#64 = readAt s.h i 0#64)
      ∧ (∀ i, stateWords s.alg ≤ i → readAt t.v i 0#64 = readAt s.v i 0#64)
      ∧ t.t = 16#7 ∧ t.cph = .expand
      ∧ t.mode = s.mode ∧ t.alg = s.alg ∧ t.errcode = s.errcode ∧ t.data = s.data ∧ t.h = s.h ∧ t.buf = s.buf
      ∧ t.fill = s.fill ∧ t.mlen = s.mlen ∧ t.pstage = s.pstage ∧ SameBus s t

/-- EXPAND (R323): S[t] takes the derived word, and t goes on or the rounds start at 0. -/
def Obligations.ExpandWritesOneScheduleWord : Prop :=
  ∀ s : State, s.busy = true → s.cph = .expand → 16 ≤ s.t.toNat → s.t.toNat < rounds s.alg →
    ∃ t, engineStep s = .next t
      ∧ readAt t.sch s.t.toNat 0#64 = expandWord s.alg (fun i => readAt s.sch i 0#64) s.t.toNat
      ∧ (∀ j, j ≠ s.t.toNat → readAt t.sch j 0#64 = readAt s.sch j 0#64)
      ∧ (s.t.toNat + 1 = rounds s.alg → t.t = 0#7 ∧ t.cph = .round)
      ∧ (s.t.toNat + 1 ≠ rounds s.alg → t.t.toNat = s.t.toNat + 1 ∧ t.cph = .expand)
      ∧ t.mode = s.mode ∧ t.alg = s.alg ∧ t.errcode = s.errcode ∧ t.data = s.data ∧ t.h = s.h ∧ t.v = s.v
      ∧ t.buf = s.buf ∧ t.fill = s.fill ∧ t.mlen = s.mlen ∧ t.pstage = s.pstage ∧ SameBus s t

/-- ROUND (R324): V[0 .. NH−1] take the round's words, and after the last round the fold follows. -/
def Obligations.RoundWritesTheWorkingState : Prop :=
  ∀ s : State, s.busy = true → s.cph = .round → s.t.toNat < rounds s.alg →
    ∃ t, engineStep s = .next t
      ∧ (∀ i, i < stateWords s.alg → readAt t.v i 0#64 =
          (roundWords s.alg s.t.toNat (readAt s.sch s.t.toNat 0#64) fun j => readAt s.v j 0#64).getD i 0#64)
      ∧ (∀ i, stateWords s.alg ≤ i → readAt t.v i 0#64 = readAt s.v i 0#64)
      ∧ t.t.toNat = s.t.toNat + 1
      ∧ t.cph = (if s.t.toNat + 1 = rounds s.alg then .fold else .round)
      ∧ t.mode = s.mode ∧ t.alg = s.alg ∧ t.errcode = s.errcode ∧ t.data = s.data ∧ t.h = s.h ∧ t.sch = s.sch
      ∧ t.buf = s.buf ∧ t.fill = s.fill ∧ t.mlen = s.mlen ∧ t.pstage = s.pstage ∧ SameBus s t

/-- FOLD (R325, R246): H[i] takes H[i] + V[i] modulo 2^W, and the engine goes on to ACCEPT, to the length-field block or
to DONE. -/
def Obligations.FoldAddsTheWorkingState : Prop :=
  ∀ s : State, s.busy = true → s.cph = .fold →
    ∃ t, engineStep s = .next t
      ∧ (∀ i, i < stateWords s.alg →
          (readAt t.h i 0#64).toNat = ((readAt s.h i 0#64).toNat + (readAt s.v i 0#64).toNat) % 2 ^ wordBits s.alg)
      ∧ (∀ i, stateWords s.alg ≤ i → readAt t.h i 0#64 = readAt s.h i 0#64)
      ∧ t.fill = 0#8 ∧ t.cph = .idle ∧ t.t = 0#7
      ∧ (s.mode = .busyBlock → t.mode = .accept ∧ t.pstage = s.pstage)
      ∧ (s.mode = .busyFinal → s.pstage = .second → t.mode = .busyFinal ∧ t.pstage = .len)
      ∧ (s.mode = .busyFinal → s.pstage = .last → t.mode = .done ∧ t.pstage = .none)
      ∧ t.alg = s.alg ∧ t.errcode = s.errcode ∧ t.data = s.data ∧ t.v = s.v ∧ t.sch = s.sch ∧ t.buf = s.buf
      ∧ t.mlen = s.mlen ∧ SameBus s t

/-- MARK (R326): the byte 0x80 at FILL, then LEN where the length field fits in this block and ZFULL where not. -/
def Obligations.MarkAppendsTheSetBit : Prop :=
  ∀ s : State, s.mode = .busyFinal → s.cph = .idle → s.pstage = .mark → s.fill.toNat < blockBytes s.alg →
    ∃ t, engineStep s = .next t
      ∧ readAt t.buf s.fill.toNat 0#8 = 0x80#8
      ∧ (∀ j, j ≠ s.fill.toNat → readAt t.buf j 0#8 = readAt s.buf j 0#8)
      ∧ t.fill.toNat = s.fill.toNat + 1
      ∧ t.pstage = (if s.fill.toNat + 1 ≤ blockBytes s.alg - lenBytes s.alg then .len else .zfull)
      ∧ t.mode = s.mode ∧ t.alg = s.alg ∧ t.errcode = s.errcode ∧ t.data = s.data ∧ t.h = s.h ∧ t.v = s.v
      ∧ t.sch = s.sch ∧ t.mlen = s.mlen ∧ t.cph = s.cph ∧ t.t = s.t ∧ SameBus s t

/-- ZFULL (R327): zeros from FILL to the block's end, and the block is compressed. -/
def Obligations.ZfullCompletesTheBlock : Prop :=
  ∀ s : State, s.mode = .busyFinal → s.cph = .idle → s.pstage = .zfull →
    ∃ t, engineStep s = .next t
      ∧ (∀ j, s.fill.toNat ≤ j → j < blockBytes s.alg → readAt t.buf j 0#8 = 0x00#8)
      ∧ (∀ j, j < s.fill.toNat ∨ blockBytes s.alg ≤ j → readAt t.buf j 0#8 = readAt s.buf j 0#8)
      ∧ t.fill.toNat = blockBytes s.alg ∧ t.cph = .load ∧ t.pstage = .second
      ∧ t.mode = s.mode ∧ t.alg = s.alg ∧ t.errcode = s.errcode ∧ t.data = s.data ∧ t.h = s.h ∧ t.v = s.v
      ∧ t.sch = s.sch ∧ t.mlen = s.mlen ∧ t.t = s.t ∧ SameBus s t

/-- LEN (R328): zeros from FILL to the length field, then MLEN in L/8 big-endian bytes, and the block is compressed. R18
defines those bytes for MLEN below 2^L, which the invariant gives; that an MLEN of 2^L or more gives its low L bits is the
model's choice: DESIGN CHOICE, log entry 24. -/
def Obligations.LenWritesTheLengthField : Prop :=
  ∀ s : State, s.mode = .busyFinal → s.cph = .idle → s.pstage = .len →
    s.fill.toNat ≤ blockBytes s.alg - lenBytes s.alg →
    ∃ t, engineStep s = .next t
      ∧ (∀ j, s.fill.toNat ≤ j → j < blockBytes s.alg - lenBytes s.alg → readAt t.buf j 0#8 = 0x00#8)
      ∧ (∀ j, j < lenBytes s.alg → readAt t.buf (blockBytes s.alg - lenBytes s.alg + j) 0#8 =
          s.mlen.extractLsb' (8 * (lenBytes s.alg - 1 - j)) 8)
      ∧ (∀ j, j < s.fill.toNat ∨ blockBytes s.alg ≤ j → readAt t.buf j 0#8 = readAt s.buf j 0#8)
      ∧ t.fill.toNat = blockBytes s.alg ∧ t.cph = .load ∧ t.pstage = .last
      ∧ t.mode = s.mode ∧ t.alg = s.alg ∧ t.errcode = s.errcode ∧ t.data = s.data ∧ t.h = s.h ∧ t.v = s.v
      ∧ t.sch = s.sch ∧ t.mlen = s.mlen ∧ t.t = s.t ∧ SameBus s t

/-- An engine step is enabled exactly when the engine is busy: a busy engine that meets the invariant steps to another
state, one that is not busy does nothing, and a step touches neither the bus side nor DATA (rests on R320 and R44). -/
def Obligations.EngineStepsExactlyWhenBusy : Prop :=
  ∀ s : State,
    (s.busy = false → engineStep s = .next s)
    ∧ (Inv s → s.busy = true → ∃ t, engineStep s = .next t ∧ t ≠ s)
    ∧ (∀ t, engineStep s = .next t → SameBus s t ∧ t.data = s.data)

/-! ## The datapath (40_word_arithmetic.md, 43_schedule_expander.md, 44_compressor.md) -/

/-- R131: the sum modulo 2^W, whatever the order and the grouping. -/
def Obligations.AddIsTheModularSum : Prop :=
  ∀ (w : Nat) (xs ys : List (BitVec w)),
    (addW xs).toNat = (xs.map BitVec.toNat).sum % 2 ^ w ∧ (xs.Perm ys → addW xs = addW ys)
    ∧ addW (xs ++ [addW ys]) = addW (xs ++ ys)

/-- The word rotated as a ring of W bits (rests on R132 and R133), and the right rotation as a left one, which R133 marks
as derived from R132 and R133. -/
def Obligations.RotationsMoveBitsRoundTheRing : Prop :=
  ∀ (w : Nat) (x : BitVec w) (n : Nat), 0 < n → n < w →
    (∀ i, i < w → (rotl x n).getLsbD i = x.getLsbD ((i + (w - n)) % w)
      ∧ (rotr x n).getLsbD i = x.getLsbD ((i + n) % w))
    ∧ rotr x n = rotl x (w - n)

/-- R134, R135, R137, R138, R139: the shift and the bitwise functions, bit by bit. -/
def Obligations.BitwiseFunctionsPerBit : Prop :=
  ∀ (w : Nat) (a b c : BitVec w) (n i : Nat), i < w →
    (shr a n).toNat = a.toNat / 2 ^ n
    ∧ (notW a).getLsbD i = !a.getLsbD i
    ∧ (xor3 a b c).getLsbD i = ((a.getLsbD i ^^ b.getLsbD i) ^^ c.getLsbD i)
    ∧ ((maj a b c).getLsbD i = true ↔
        2 ≤ (a.getLsbD i).toNat + (b.getLsbD i).toNat + (c.getLsbD i).toNat)
    ∧ (ch a b c).getLsbD i = (if a.getLsbD i then b.getLsbD i else c.getLsbD i)

/-- R140 to R147: the mixing functions as rotations and shifts. -/
def Obligations.MixingFunctionsAreTheirRotations : Prop :=
  ∀ (x : BitVec 32) (y : BitVec 64),
    sigma0_32 x = (x.rotateRight 7 ^^^ x.rotateRight 18 ^^^ x >>> 3)
    ∧ sigma1_32 x = (x.rotateRight 17 ^^^ x.rotateRight 19 ^^^ x >>> 10)
    ∧ sigma0_64 y = (y.rotateRight 1 ^^^ y.rotateRight 8 ^^^ y >>> 7)
    ∧ sigma1_64 y = (y.rotateRight 19 ^^^ y.rotateRight 61 ^^^ y >>> 6)
    ∧ bigSigma0_32 x = (x.rotateRight 2 ^^^ x.rotateRight 13 ^^^ x.rotateRight 22)
    ∧ bigSigma1_32 x = (x.rotateRight 6 ^^^ x.rotateRight 11 ^^^ x.rotateRight 25)
    ∧ bigSigma0_64 y = (y.rotateRight 28 ^^^ y.rotateRight 34 ^^^ y.rotateRight 39)
    ∧ bigSigma1_64 y = (y.rotateRight 14 ^^^ y.rotateRight 18 ^^^ y.rotateRight 41)

/-- The K and H0 tables have their lengths, a computation's initial words are read from the H0 table of its algorithm, that
of SHA-1 holds the five words of R171, and the other tables' entries are the leading fractional bits of the cube and square roots
of the first primes (rests on the formulas of R172, R173, R175, R176; log entry 10). -/
def Obligations.ConstantTablesAreRootsOfPrimes : Prop :=
  let primes := [2, 3, 5, 7, 11, 13, 17, 19, 23, 29, 31, 37, 41, 43, 47, 53, 59, 61, 67, 71, 73, 79, 83, 89, 97, 101] ++
    [103, 107, 109, 113, 127, 131, 137, 139, 149, 151, 157, 163, 167, 173, 179, 181, 191, 193, 197, 199, 211, 223] ++
    [227, 229, 233, 239, 241, 251, 257, 263, 269, 271, 277, 281, 283, 293, 307, 311, 313, 317, 331, 337, 347, 349] ++
    [353, 359, 367, 373, 379, 383, 389, 397, 401, 409]
  kSha256Table.length = 64 ∧ kSha512Table.length = 80 ∧ h0Sha1.length = 5 ∧ h0Sha256.length = 8 ∧ h0Sha512.length = 8
    ∧ h0Sha1 = [0x67452301#32, 0xefcdab89#32, 0x98badcfe#32, 0x10325476#32, 0xc3d2e1f0#32]
    ∧ (∀ i, initialWord .sha1 i = (h0Sha1.getD i 0#32).setWidth 64
        ∧ initialWord .sha256 i = (h0Sha256.getD i 0#32).setWidth 64 ∧ initialWord .sha512 i = h0Sha512.getD i 0#64)
    ∧ (∀ a i, i < 8 → readAt (initialHash a) i 0#64 = initialWord a i)
    ∧ (∀ t, t < 64 → ∃ q, q < 8 ∧
        (q * 2 ^ 32 + (kSha256Table.getD t 0#32).toNat) ^ 3 ≤ primes.getD t 0 * 2 ^ 96 ∧
        primes.getD t 0 * 2 ^ 96 < (q * 2 ^ 32 + (kSha256Table.getD t 0#32).toNat + 1) ^ 3)
    ∧ (∀ t, t < 80 → ∃ q, q < 8 ∧
        (q * 2 ^ 64 + (kSha512Table.getD t 0#64).toNat) ^ 3 ≤ primes.getD t 0 * 2 ^ 192 ∧
        primes.getD t 0 * 2 ^ 192 < (q * 2 ^ 64 + (kSha512Table.getD t 0#64).toNat + 1) ^ 3)
    ∧ (∀ i, i < 8 → ∃ q, q < 5 ∧
        (q * 2 ^ 32 + (h0Sha256.getD i 0#32).toNat) ^ 2 ≤ primes.getD i 0 * 2 ^ 64 ∧
        primes.getD i 0 * 2 ^ 64 < (q * 2 ^ 32 + (h0Sha256.getD i 0#32).toNat + 1) ^ 2)
    ∧ (∀ i, i < 8 → ∃ q, q < 5 ∧
        (q * 2 ^ 64 + (h0Sha512.getD i 0#64).toNat) ^ 2 ≤ primes.getD i 0 * 2 ^ 128 ∧
        primes.getD i 0 * 2 ^ 128 < (q * 2 ^ 64 + (h0Sha512.getD i 0#64).toNat + 1) ^ 2)

/-- R221, R222, R223: the expansion formulas. -/
def Obligations.ExpansionFormulas : Prop :=
  ∀ (s : Nat → BitVec 64) (t : Nat), 16 ≤ t →
    expandWord .sha1 s t =
        (((s (t - 3)).setWidth 32 ^^^ (s (t - 8)).setWidth 32 ^^^ (s (t - 14)).setWidth 32
          ^^^ (s (t - 16)).setWidth 32 : BitVec 32).rotateLeft 1).setWidth 64
    ∧ (expandWord .sha256 s t).toNat =
        ((sigma1_32 ((s (t - 2)).setWidth 32)).toNat + ((s (t - 7)).toNat % 2 ^ 32)
          + (sigma0_32 ((s (t - 15)).setWidth 32)).toNat + ((s (t - 16)).toNat % 2 ^ 32)) % 2 ^ 32
    ∧ (expandWord .sha512 s t).toNat =
        ((sigma1_64 (s (t - 2))).toNat + (s (t - 7)).toNat + (sigma0_64 (s (t - 15))).toNat + (s (t - 16)).toNat) % 2 ^ 64

/-- R241, R242: the SHA-1 round, with f and k by the canonical phase of t. -/
def Obligations.Sha1RoundFormula : Prop :=
  ∀ (t : Nat) (s : BitVec 64) (v : Nat → BitVec 64), t < 80 →
    ∃ a b c d e f k new : BitVec 32,
      a = (v 0).setWidth 32 ∧ b = (v 1).setWidth 32 ∧ c = (v 2).setWidth 32 ∧ d = (v 3).setWidth 32
      ∧ e = (v 4).setWidth 32
      ∧ f = (if t < 20 then (~~~b &&& d) ||| (b &&& c)
             else if t < 40 then b ^^^ c ^^^ d
             else if t < 60 then (b &&& c) ||| (b &&& d) ||| (c &&& d)
             else b ^^^ c ^^^ d)
      ∧ k = (if t < 20 then 0x5A827999#32 else if t < 40 then 0x6ED9EBA1#32 else if t < 60 then 0x8F1BBCDC#32
             else 0xCA62C1D6#32)
      ∧ new.toNat = ((a.rotateLeft 5).toNat + f.toNat + k.toNat + s.toNat % 2 ^ 32 + e.toNat) % 2 ^ 32
      ∧ roundWords .sha1 t s v =
          [new.setWidth 64, a.setWidth 64, (b.rotateLeft 30).setWidth 64, c.setWidth 64, d.setWidth 64]

/-- R243, R244: the SHA-256 and SHA-512 rounds. -/
def Obligations.Sha2RoundFormulas : Prop :=
  ∀ (t : Nat) (s : BitVec 64) (v : Nat → BitVec 64),
    (t < 64 → ∃ a b c d e f g h t1 t2 new new4 : BitVec 32,
      a = (v 0).setWidth 32 ∧ b = (v 1).setWidth 32 ∧ c = (v 2).setWidth 32 ∧ d = (v 3).setWidth 32
      ∧ e = (v 4).setWidth 32 ∧ f = (v 5).setWidth 32 ∧ g = (v 6).setWidth 32 ∧ h = (v 7).setWidth 32
      ∧ t1.toNat = ((bigSigma1_32 e).toNat + ((~~~e &&& g) ||| (e &&& f)).toNat + h.toNat + s.toNat % 2 ^ 32
          + (kSha256Table.getD t 0#32).toNat) % 2 ^ 32
      ∧ t2.toNat = ((bigSigma0_32 a).toNat + ((a &&& b) ||| (a &&& c) ||| (b &&& c)).toNat) % 2 ^ 32
      ∧ new.toNat = (t1.toNat + t2.toNat) % 2 ^ 32 ∧ new4.toNat = (d.toNat + t1.toNat) % 2 ^ 32
      ∧ roundWords .sha256 t s v =
          [new.setWidth 64, a.setWidth 64, b.setWidth 64, c.setWidth 64, new4.setWidth 64, e.setWidth 64,
            f.setWidth 64, g.setWidth 64])
    ∧ (t < 80 → ∃ t1 t2 new new4 : BitVec 64,
      t1.toNat = ((bigSigma1_64 (v 4)).toNat + ((~~~(v 4) &&& v 6) ||| (v 4 &&& v 5)).toNat + (v 7).toNat + s.toNat
          + (kSha512Table.getD t 0#64).toNat) % 2 ^ 64
      ∧ t2.toNat = ((bigSigma0_64 (v 0)).toNat + ((v 0 &&& v 1) ||| (v 0 &&& v 2) ||| (v 1 &&& v 2)).toNat) % 2 ^ 64
      ∧ new.toNat = (t1.toNat + t2.toNat) % 2 ^ 64 ∧ new4.toNat = ((v 3).toNat + t1.toNat) % 2 ^ 64
      ∧ roundWords .sha512 t s v = [new, v 0, v 1, v 2, new4, v 4, v 5, v 6])

/-! ## The functions of the whole message (42_padder_segmenter.md, 43_schedule_expander.md) -/

/-- R191, R192: the padded stream is the message, the byte 0x80, zeros and the big-endian length field, and its length is
the least multiple of B/8 that holds them. -/
def Obligations.PaddedStreamIsLeast : Prop :=
  ∀ (a : Alg) (m : List (BitVec 8)),
    (pad a m).take m.length = m
    ∧ (pad a m).getD m.length 0#8 = 0x80#8
    ∧ (∀ i, m.length < i → i < (pad a m).length - lenBytes a → (pad a m).getD i 1#8 = 0x00#8)
    ∧ bigEndian (fun j => (pad a m).getD ((pad a m).length - lenBytes a + j) 0#8) (lenBytes a)
        = 8 * m.length % 2 ^ lenBits a
    ∧ (pad a m).length % blockBytes a = 0
    ∧ m.length + 1 + lenBytes a ≤ (pad a m).length
    ∧ (pad a m).length < m.length + 1 + lenBytes a + blockBytes a

/-- The padded stream is N whole blocks and each has 16 words in stream order (rests on R193, R197 and R198). -/
def Obligations.SegmentsAreWholeBlocks : Prop :=
  ∀ (a : Alg) (m : List (BitVec 8)),
    (pad a m).length = ((m.length + lenBytes a) / blockBytes a + 1) * blockBytes a
    ∧ (segment a (pad a m)).length = (m.length + lenBytes a) / blockBytes a + 1
    ∧ ∀ i, i < (segment a (pad a m)).length → ∃ block, (segment a (pad a m))[i]? = some block
        ∧ block.length = blockWords a
        ∧ ∀ j, j < 16 → (block.getD j 0#64).toNat
            = bigEndian (fun k => (pad a m).getD ((16 * i + j) * wordBytes a + k) 0#8) (wordBytes a)

/-- R220: the first 16 schedule words are the block's, and each later one is derived from earlier ones. -/
def Obligations.ScheduleRecurrence : Prop :=
  ∀ (a : Alg) (words : List (BitVec 64)), words.length = 16 →
    (∀ t, t < 16 → readAt (schedule a words) t 0#64 = words.getD t 0#64)
    ∧ (∀ t, 16 ≤ t → t < rounds a →
        readAt (schedule a words) t 0#64 = expandWord a (fun i => readAt (schedule a words) i 0#64) t)

/-- R251: the rendered digest has 40, 64 or 128 characters. -/
def Obligations.RenderedDigestLengths : Prop :=
  ∀ m : List (BitVec 8), (render .sha1 (digest .sha1 m)).length = 40
    ∧ (render .sha256 (digest .sha256 m)).length = 64 ∧ (render .sha512 (digest .sha512 m)).length = 128

/-! ## The engine computes the digest -/

/-- The steps of one block, 2T − 14 of them, compute `compress` of the running hash state and the block in BUF, from any
busy state with CPH = LOAD and whatever V and S held; the engine is busy with the block until the last of them (rests on
R245, R321, R329 and R331). -/
def Obligations.BlockStepsComputeCompress : Prop :=
  ∀ s : State, s.busy = true → s.cph = .load →
    (∀ n, n < 2 * rounds s.alg - 14 → ∃ u, engineRun n s = .next u ∧ u.mode = s.mode ∧ u.cph ≠ .idle)
    ∧ ∃ t, engineRun (2 * rounds s.alg - 14) s = .next t
        ∧ t.h = compress s.alg s.h (bufferBlock s)
        ∧ t.cph = .idle ∧ t.fill = 0#8 ∧ t.t = 0#7 ∧ t.alg = s.alg ∧ t.mlen = s.mlen ∧ t.buf = s.buf
        ∧ (s.mode = .busyBlock → t.mode = .accept ∧ t.pstage = s.pstage)
        ∧ (s.mode = .busyFinal → s.pstage = .second → t.mode = .busyFinal ∧ t.pstage = .len)
        ∧ (s.mode = .busyFinal → s.pstage = .last → t.mode = .done ∧ t.pstage = .none)

/-- 46_sequencer.md section 4 (R330, which the spec marks derived): under any interleaving, a computation of the bytes M
never leaves its protocol states, its busy states can always step, the blocks LOAD reads are those of segment(pad(M)) in
order, it reaches DONE after finitely many engine steps, and in DONE H is Digest(ALG, M). -/
def Obligations.ComputationYieldsTheDigest : Prop :=
  ∀ (a : Alg) (m : List (BitVec 8)) (blocks : List (List (BitVec 64))) (finished : Bool) (s : State),
    Computes a m blocks finished s →
    s.alg = a
    ∧ (s.busy = true → ∃ t, engineStep s = .next t)
    ∧ (finished = false → s.mode = .accept ∨ s.mode = .busyBlock)
    ∧ (finished = true → s.mode = .busyFinal ∨ s.mode = .done)
    ∧ (finished = true → blocks <+: segment a (pad a m))
    ∧ (s.mode = .done → blocks = segment a (pad a m) ∧ s.h = digestState a m)
    ∧ (finished = true → ∃ n t, engineRun n s = .next t ∧ t.mode = .done ∧ t.h = digestState a m)

/-- FINISH in a state that meets the invariant takes the engine steps R331 counts (which the spec marks derived and
informative), in R331's numbers: 148 or 295 under SHA-1 and SHA-512, 116 or 231 under SHA-256; it is DONE after them and
not before. -/
def Obligations.FinishTakesTheCountedSteps : Prop :=
  ∀ s t : State, Inv s → s.mode = .accept → exec .finish s = .next t →
    finishSteps s.alg s.fill.toNat =
      (match s.alg with
       | .sha1 => if s.fill.toNat ≤ 55 then 148 else 295
       | .sha256 => if s.fill.toNat ≤ 55 then 116 else 231
       | .sha512 => if s.fill.toNat ≤ 111 then 148 else 295)
    ∧ (∀ n, n < finishSteps s.alg s.fill.toNat → ∃ u, engineRun n t = .next u ∧ u.mode = .busyFinal)
    ∧ ∃ d, engineRun (finishSteps s.alg s.fill.toNat) t = .next d ∧ d.mode = .done

/-- A busy period ends: with no turn listed, a busy machine that meets the invariant is not busy after at most 295 steps,
in ACCEPT or DONE, with the host's operations still pending (rests on R331 and R400; the order of moves is log entry
3's). -/
def Obligations.BusyPeriodsEnd : Prop :=
  ∀ s : State, Inv s → s.busy = true → s.turns = [] →
    ∃ n t, n ≤ 295 ∧ Sys2Proof.core.run n s = .next t ∧ (t.mode = .accept ∨ t.mode = .done) ∧ t.host = s.host
      ∧ t.responses = s.responses

/-- The host program of one computation, assembled and run from any state that meets the invariant with no turn listed,
ends in DONE, and the values its last reads returned are the digest (rests on R392, R330 and R50). The model's own are the
order of moves (log entry 3), the queue that holds the program (log entry 4), WAIT as one pending operation (log entry 11)
and the list of responses (log entry 14). -/
def Obligations.HostProgramReadsTheDigest : Prop :=
  ∀ (a : Alg) (m : List (BitVec 8)) (s : State), Inv s → s.turns = [] →
    assemble s.engineBase (hostProgram a m) = some s.host →
    ∃ n t, Sys2Proof.core.run n s = .next t ∧ t.host = [] ∧ t.mode = .done
      ∧ (t.responses.take (digestRegisterCount a)).reverse = digestRegisters a m

/-- Nothing of an earlier computation reaches a later one (R252's idempotence, which the spec marks derived): two engines
in any states, with equal DATA and the same bus side, do the same from the same INIT on under any interleaving; the host
reads the same values and every register of the window reads alike. -/
def Obligations.InitForgetsEarlierComputations : Prop :=
  ∀ (a : Alg) (s₁ s₂ t₁ t₂ : State) (n : Nat), s₁.data = s₂.data → SameBus s₁ s₂ →
    exec (.init a.field) s₁ = .next t₁ → exec (.init a.field) s₂ = .next t₂ →
    match Sys2Proof.core.run n t₁, Sys2Proof.core.run n t₂ with
    | .next u₁, .next u₂ => SameBus u₁ u₂ ∧ ∀ off, readRegister off u₁ = readRegister off u₂
    | .refused r₁, .refused r₂ => r₁ = r₂
    | _, _ => False

/-! ## Whole-machine rules -/

/-- The state after reset meets the invariant. -/
def Obligations.ResetMeetsTheInvariant : Prop := Inv State.reset

/-- Every step keeps the value invariants of R44 (which the spec marks derived), from every state that meets them and
under every interleaving, resets and free values included. -/
def Obligations.StepsKeepTheInvariant : Prop := ∀ s t : State, Inv s → step s = .next t → Inv t

/-- A state that meets the invariant is never stuck: no step of it is a fault, and it is refused only where the host
makes an access outside the bus protocol. -/
def Obligations.InvariantRulesOutStuckStates : Prop :=
  ∀ s : State, Inv s →
    (∀ r, step s ≠ .fault r)
    ∧ (nextEvent s = .violation ↔ step s = .refused .accessOutsideProtocol)
    ∧ (nextEvent s ≠ .violation ↔ ∃ t, step s = .next t)

/-- DATA is written by a DATA write and by reset, and by nothing else (rests on R34 and R396). -/
def Obligations.OnlyTheHostWritesData : Prop :=
  ∀ s t : State, step s = .next t → t.data ≠ s.data →
    nextEvent s = .dataWrite t.data ∨ (nextEvent s = .reset ∧ t.data = 0#32)

/-- ALG is written by a legal INIT and by reset, and by nothing else (rests on R32). -/
def Obligations.OnlyInitAndResetWriteAlg : Prop :=
  ∀ s t : State, step s = .next t → t.alg ≠ s.alg →
    nextEvent s = .command (encode (.init t.alg.field)) ∨ (nextEvent s = .reset ∧ t.alg = .sha1)

/-- H is written by a legal INIT, by FOLD and by reset, and by nothing else (rests on R35). -/
def Obligations.OnlyInitFoldAndResetWriteHash : Prop :=
  ∀ s t : State, step s = .next t → t.h ≠ s.h →
    (∃ a : Alg, nextEvent s = .command (encode (.init a.field))) ∨ (nextEvent s = .engineStep ∧ s.cph = .fold)
      ∨ nextEvent s = .reset

/-- V is written by LOAD and ROUND, S by LOAD and EXPAND, BUF by PUSH and the padding steps, MLEN by INIT and PUSH, and
each by reset; by nothing else (rests on R36, R37, R38 and R40). -/
def Obligations.BlockStorageWriters : Prop :=
  ∀ s t : State, step s = .next t → nextEvent s ≠ .reset →
    (t.v ≠ s.v → nextEvent s = .engineStep ∧ (s.cph = .load ∨ s.cph = .round))
    ∧ (t.sch ≠ s.sch → nextEvent s = .engineStep ∧ (s.cph = .load ∨ s.cph = .expand))
    ∧ (t.buf ≠ s.buf → (∃ nb, nextEvent s = .command (encode (.push nb)))
        ∨ (nextEvent s = .engineStep ∧ s.cph = .idle ∧ (s.pstage = .mark ∨ s.pstage = .zfull ∨ s.pstage = .len)))
    ∧ (t.mlen ≠ s.mlen → (∃ nb, nextEvent s = .command (encode (.push nb)))
        ∨ ∃ a : Alg, nextEvent s = .command (encode (.init a.field)))

/-- The digest stays readable, unchanged, while the host writes no command and the platform does not reset (rests on R80
and R394). -/
def Obligations.DigestIsStableWhileDone : Prop :=
  ∀ s t : State, s.mode = .done → step s = .next t → nextEvent s ≠ .reset → (∀ w, nextEvent s ≠ .command w) →
    t.mode = .done ∧ ∀ i, digestWord t i = digestWord s i

/-! ## Parameters (00_scope.md) -/

/-- The parameters of each variant, as R11's table lists them: W, B, B/8, L, L/8, B/W, T, NH, the digest's bits and its
hexadecimal characters. -/
def Obligations.ParametersOfTheVariants : Prop :=
  ∀ a : Alg,
    [wordBits a, blockBits a, blockBytes a, lenBits a, lenBytes a, blockWords a, rounds a, stateWords a, digestBits a,
      digestHexDigits a] =
      match a with
      | .sha1 => [32, 512, 64, 64, 8, 16, 80, 5, 160, 40]
      | .sha256 => [32, 512, 64, 64, 8, 16, 64, 8, 256, 64]
      | .sha512 => [64, 1024, 128, 128, 16, 16, 80, 8, 512, 128]
end

