-- ==== Sys2Proof/Laws/Operands.lean ====
section
/-!
SUPPORT. The small lemmas of the register arrays, the byte order, the parameters, the modular sum and the address
decoder.
-/

namespace Sys2Proof.Machine

/-! ## Register arrays -/

theorem replaceRange_getElem? {α : Type} (f : Nat → α) (lo hi : Nat) (ys : List α) :
    ∀ i k, (replaceRange f lo hi i ys)[k]? =
      if lo ≤ i + k ∧ i + k < hi ∧ k < ys.length then some (f (i + k)) else ys[k]? := by
  induction ys with
  | nil => intro i k; simp [replaceRange]
  | cons y ys ih =>
    intro i k
    cases k with
    | zero => by_cases h : lo ≤ i ∧ i < hi <;> simp [replaceRange, h]
    | succ k =>
      have e : i + 1 + k = i + (k + 1) := by omega
      simp [replaceRange, ih, e]

theorem readAt_eq_getElem {α : Type} {n : Nat} (x : Vector α n) (i : Nat) (d : α) (h : i < n) : readAt x i d = x[i] := by
  simp [readAt, h]

theorem readAt_of_le {α : Type} {n : Nat} (x : Vector α n) (i : Nat) (d : α) (h : n ≤ i) : readAt x i d = d := by
  simp [readAt, Nat.not_lt.mpr h]

theorem readAt_eq_getElem? {α : Type} {n : Nat} (x : Vector α n) (i : Nat) (d : α) :
    readAt x i d = (x.toList[i]?).getD d := by
  unfold readAt; split <;> simp_all

/-- A read after a write of a range gives the written value inside it and the old one outside. -/
theorem readAt_writeRange {α : Type} {n : Nat} (x : Vector α n) (lo hi : Nat) (f : Nat → α) (i : Nat) (d : α) :
    readAt (writeRange x lo hi f) i d = if lo ≤ i ∧ i < hi ∧ i < n then f i else readAt x i d := by
  have h := replaceRange_getElem? f lo hi x.toList 0 i
  simp only [Nat.zero_add, Vector.length_toList] at h
  rw [readAt_eq_getElem?, readAt_eq_getElem?]
  have e : (writeRange x lo hi f).toList = replaceRange f lo hi 0 x.toList := by simp [writeRange]
  rw [e, h]
  split <;> simp

theorem readAt_writeAt {α : Type} {n : Nat} (x : Vector α n) (i : Nat) (value : α) (j : Nat) (d : α) :
    readAt (writeAt x i value) j d = if j = i ∧ i < n then value else readAt x j d := by
  unfold writeAt
  rw [readAt_writeRange]
  by_cases h : j = i ∧ i < n
  · rw [if_pos h, if_pos]; omega
  · rw [if_neg h, if_neg]; omega

theorem readAt_replicate {α : Type} {n : Nat} (value : α) (i : Nat) (d : α) (h : i < n) :
    readAt (Vector.replicate n value) i d = value := by simp [readAt, h]

/-- Two register arrays that read alike everywhere are equal. -/
theorem readAt_ext {α : Type} {n : Nat} (x y : Vector α n) (d : α) (h : ∀ i, i < n → readAt x i d = readAt y i d) :
    x = y := by
  ext i hi
  have := h i hi
  rwa [readAt_eq_getElem _ _ _ hi, readAt_eq_getElem _ _ _ hi] at this

theorem readAt_initialHash (a : Alg) (i : Nat) (h : i < 8) : readAt (initialHash a) i 0#64 = initialWord a i := by
  simp [readAt, initialHash, h]

/-! ## Parameters -/

theorem blockBytes_cases (a : Alg) :
    (a = .sha512 ∧ blockBytes a = 128 ∧ lenBytes a = 16) ∨ (a ≠ .sha512 ∧ blockBytes a = 64 ∧ lenBytes a = 8) := by
  cases a <;> decide

theorem blockBytes_le (a : Alg) : blockBytes a ≤ 128 := by cases a <;> decide

theorem rounds_le (a : Alg) : rounds a ≤ 80 := by cases a <;> decide

theorem rounds_ge (a : Alg) : 64 ≤ rounds a := by cases a <;> decide

theorem stateWords_le (a : Alg) : stateWords a ≤ 8 := by cases a <;> decide

theorem lenBits_le (a : Alg) : lenBits a ≤ 128 := by cases a <;> decide

theorem blockBytes_eq_words (a : Alg) : blockBytes a = 16 * wordBytes a := by cases a <;> decide

/-! ## Bytes and words -/

theorem pushCount_pos (nb : BitVec 2) : 1 ≤ pushCount nb := by unfold pushCount; omega

theorem pushCount_le (nb : BitVec 2) : pushCount nb ≤ 4 := by unfold pushCount; have := nb.isLt; omega

theorem dataBytes_length (data : BitVec 32) (n : Nat) : (dataBytes data n).length = n := by simp [dataBytes]

theorem beBytes_length (value n : Nat) : (beBytes value n).length = n := by simp [beBytes]

theorem bigEndian_zero (byte : Nat → BitVec 8) : bigEndian byte 0 = 0 := rfl

theorem bigEndian_succ (byte : Nat → BitVec 8) (n : Nat) :
    bigEndian byte (n + 1) = bigEndian byte n * 256 + (byte n).toNat := by
  simp [bigEndian, List.range_succ, List.foldl_append]

theorem bigEndian_lt (byte : Nat → BitVec 8) (n : Nat) : bigEndian byte n < 256 ^ n := by
  induction n with
  | zero => simp [bigEndian]
  | succ n ih =>
    have hb : (byte n).toNat < 256 := (byte n).isLt
    rw [bigEndian_succ, Nat.pow_succ]
    omega

theorem bigEndian_congr (b c : Nat → BitVec 8) (n : Nat) (h : ∀ k, k < n → b k = c k) :
    bigEndian b n = bigEndian c n := by
  induction n with
  | zero => rfl
  | succ n ih =>
    rw [bigEndian_succ, bigEndian_succ, ih fun k hk => h k (by omega), h n (by omega)]

theorem beWord_toNat (byte : Nat → BitVec 8) (i width : Nat) (h : width ≤ 8) :
    (beWord byte i width).toNat = bigEndian (fun k => byte (i * width + k)) width := by
  have hlt := bigEndian_lt (fun k => byte (i * width + k)) width
  have hpow : (256 : Nat) ^ width ≤ 256 ^ 8 := Nat.pow_le_pow_right (by decide) h
  simp only [beWord, BitVec.toNat_ofNat]
  exact Nat.mod_eq_of_lt (by omega)

/-! ## The modular sum -/

theorem addW_foldr_toNat {w : Nat} (xs : List (BitVec w)) :
    xs.foldr (fun x sum => x.toNat + sum) 0 = (xs.map BitVec.toNat).sum := by
  induction xs with
  | nil => rfl
  | cons x xs ih => simp [ih]

theorem addW_nil {w : Nat} : addW ([] : List (BitVec w)) = 0#w := rfl

theorem addW_cons {w : Nat} (x : BitVec w) (xs : List (BitVec w)) : addW (x :: xs) = x + addW xs := by
  apply BitVec.eq_of_toNat_eq
  simp [addW, BitVec.toNat_add]

/-! ## The address decoder -/

/-- A protocol access inside the window reaches the register at its offset (20_memory.md R76). -/
theorem busTarget_register (base off : Nat) (hb : base % 128 = 0) (ho : off % 4 = 0) (hlt : off < 128) :
    busTarget base (base + off) 4 = .register off := by
  unfold busTarget windowBytes
  rw [if_neg (by omega), if_pos (by omega)]
  congr 1
  omega

/-- What the decoder can answer. -/
theorem busTarget_register_iff (base addr width off : Nat) :
    busTarget base addr width = .register off ↔
      width = 4 ∧ addr % 4 = 0 ∧ addr = base + off ∧ off + 4 ≤ 128 := by
  unfold busTarget windowBytes
  constructor
  · intro h
    split at h
    · cases h
    · split at h
      · injection h with h; omega
      · cases h
  · rintro ⟨h1, h2, h3, h4⟩
    rw [if_neg (by omega), if_pos (by omega)]
    congr 1
    omega

end Sys2Proof.Machine
end

