-- ==== Sys2Proof/Laws/State.lean ====
section
/-!
SUPPORT. One lemma per field per named update of the state, true by definition: later proofs rewrite with these and unfold
no record update.
-/

namespace Sys2Proof.Machine

variable (s : State)

/-! Error entry (60_exceptions.md R362). -/

@[simp] theorem raiseError_mode (c : ErrCode) : (raiseError c s).mode = .error := by unfold raiseError; rfl
@[simp] theorem raiseError_alg (c : ErrCode) : (raiseError c s).alg = s.alg := by unfold raiseError; rfl
@[simp] theorem raiseError_errcode (c : ErrCode) : (raiseError c s).errcode = c := by unfold raiseError; rfl
@[simp] theorem raiseError_data (c : ErrCode) : (raiseError c s).data = s.data := by unfold raiseError; rfl
@[simp] theorem raiseError_h (c : ErrCode) : (raiseError c s).h = s.h := by unfold raiseError; rfl
@[simp] theorem raiseError_v (c : ErrCode) : (raiseError c s).v = s.v := by unfold raiseError; rfl
@[simp] theorem raiseError_sch (c : ErrCode) : (raiseError c s).sch = s.sch := by unfold raiseError; rfl
@[simp] theorem raiseError_buf (c : ErrCode) : (raiseError c s).buf = s.buf := by unfold raiseError; rfl
@[simp] theorem raiseError_fill (c : ErrCode) : (raiseError c s).fill = s.fill := by unfold raiseError; rfl
@[simp] theorem raiseError_mlen (c : ErrCode) : (raiseError c s).mlen = s.mlen := by unfold raiseError; rfl
@[simp] theorem raiseError_cph (c : ErrCode) : (raiseError c s).cph = .idle := by unfold raiseError; rfl
@[simp] theorem raiseError_t (c : ErrCode) : (raiseError c s).t = 0#7 := by unfold raiseError; rfl
@[simp] theorem raiseError_pstage (c : ErrCode) : (raiseError c s).pstage = .none := by unfold raiseError; rfl
@[simp] theorem raiseError_engineBase (c : ErrCode) : (raiseError c s).engineBase = s.engineBase := by
  unfold raiseError; rfl
@[simp] theorem raiseError_host (c : ErrCode) : (raiseError c s).host = s.host := by unfold raiseError; rfl
@[simp] theorem raiseError_turns (c : ErrCode) : (raiseError c s).turns = s.turns := by unfold raiseError; rfl
@[simp] theorem raiseError_responses (c : ErrCode) : (raiseError c s).responses = s.responses := by
  unfold raiseError; rfl
@[simp] theorem raiseError_draws (c : ErrCode) : (raiseError c s).draws = s.draws := by unfold raiseError; rfl

/-! The effect of a legal INIT (45_host_commands.md R282). -/

@[simp] theorem startComputation_mode (a : Alg) : (startComputation a s).mode = .accept := by
  unfold startComputation; rfl
@[simp] theorem startComputation_alg (a : Alg) : (startComputation a s).alg = a := by unfold startComputation; rfl
@[simp] theorem startComputation_errcode (a : Alg) : (startComputation a s).errcode = .noError := by
  unfold startComputation; rfl
@[simp] theorem startComputation_data (a : Alg) : (startComputation a s).data = s.data := by
  unfold startComputation; rfl
@[simp] theorem startComputation_h (a : Alg) : (startComputation a s).h = initialHash a := by
  unfold startComputation; rfl
@[simp] theorem startComputation_v (a : Alg) : (startComputation a s).v = s.v := by unfold startComputation; rfl
@[simp] theorem startComputation_sch (a : Alg) : (startComputation a s).sch = s.sch := by unfold startComputation; rfl
@[simp] theorem startComputation_buf (a : Alg) : (startComputation a s).buf = s.buf := by unfold startComputation; rfl
@[simp] theorem startComputation_fill (a : Alg) : (startComputation a s).fill = 0#8 := by unfold startComputation; rfl
@[simp] theorem startComputation_mlen (a : Alg) : (startComputation a s).mlen = 0#128 := by
  unfold startComputation; rfl
@[simp] theorem startComputation_cph (a : Alg) : (startComputation a s).cph = .idle := by unfold startComputation; rfl
@[simp] theorem startComputation_t (a : Alg) : (startComputation a s).t = 0#7 := by unfold startComputation; rfl
@[simp] theorem startComputation_pstage (a : Alg) : (startComputation a s).pstage = .none := by
  unfold startComputation; rfl
@[simp] theorem startComputation_engineBase (a : Alg) : (startComputation a s).engineBase = s.engineBase := by
  unfold startComputation; rfl
@[simp] theorem startComputation_host (a : Alg) : (startComputation a s).host = s.host := by
  unfold startComputation; rfl
@[simp] theorem startComputation_turns (a : Alg) : (startComputation a s).turns = s.turns := by
  unfold startComputation; rfl
@[simp] theorem startComputation_responses (a : Alg) : (startComputation a s).responses = s.responses := by
  unfold startComputation; rfl
@[simp] theorem startComputation_draws (a : Alg) : (startComputation a s).draws = s.draws := by
  unfold startComputation; rfl

/-! The effect of FINISH in ACCEPT (R284). -/

@[simp] theorem startPadding_mode : (startPadding s).mode = .busyFinal := by unfold startPadding; rfl
@[simp] theorem startPadding_alg : (startPadding s).alg = s.alg := by unfold startPadding; rfl
@[simp] theorem startPadding_errcode : (startPadding s).errcode = s.errcode := by unfold startPadding; rfl
@[simp] theorem startPadding_data : (startPadding s).data = s.data := by unfold startPadding; rfl
@[simp] theorem startPadding_h : (startPadding s).h = s.h := by unfold startPadding; rfl
@[simp] theorem startPadding_v : (startPadding s).v = s.v := by unfold startPadding; rfl
@[simp] theorem startPadding_sch : (startPadding s).sch = s.sch := by unfold startPadding; rfl
@[simp] theorem startPadding_buf : (startPadding s).buf = s.buf := by unfold startPadding; rfl
@[simp] theorem startPadding_fill : (startPadding s).fill = s.fill := by unfold startPadding; rfl
@[simp] theorem startPadding_mlen : (startPadding s).mlen = s.mlen := by unfold startPadding; rfl
@[simp] theorem startPadding_cph : (startPadding s).cph = s.cph := by unfold startPadding; rfl
@[simp] theorem startPadding_t : (startPadding s).t = s.t := by unfold startPadding; rfl
@[simp] theorem startPadding_pstage : (startPadding s).pstage = .mark := by unfold startPadding; rfl
@[simp] theorem startPadding_engineBase : (startPadding s).engineBase = s.engineBase := by unfold startPadding; rfl
@[simp] theorem startPadding_host : (startPadding s).host = s.host := by unfold startPadding; rfl
@[simp] theorem startPadding_turns : (startPadding s).turns = s.turns := by unfold startPadding; rfl
@[simp] theorem startPadding_responses : (startPadding s).responses = s.responses := by unfold startPadding; rfl
@[simp] theorem startPadding_draws : (startPadding s).draws = s.draws := by unfold startPadding; rfl

/-! The bytes of a PUSH (R283). -/

@[simp] theorem appendBytes_mode (n : Nat) : (appendBytes n s).mode = s.mode := by unfold appendBytes; rfl
@[simp] theorem appendBytes_alg (n : Nat) : (appendBytes n s).alg = s.alg := by unfold appendBytes; rfl
@[simp] theorem appendBytes_errcode (n : Nat) : (appendBytes n s).errcode = s.errcode := by unfold appendBytes; rfl
@[simp] theorem appendBytes_data (n : Nat) : (appendBytes n s).data = s.data := by unfold appendBytes; rfl
@[simp] theorem appendBytes_h (n : Nat) : (appendBytes n s).h = s.h := by unfold appendBytes; rfl
@[simp] theorem appendBytes_v (n : Nat) : (appendBytes n s).v = s.v := by unfold appendBytes; rfl
@[simp] theorem appendBytes_sch (n : Nat) : (appendBytes n s).sch = s.sch := by unfold appendBytes; rfl
@[simp] theorem appendBytes_buf (n : Nat) : (appendBytes n s).buf =
    writeRange s.buf s.fill.toNat (s.fill.toNat + n) fun i => dataByte s.data (i - s.fill.toNat) := by
  unfold appendBytes; rfl
@[simp] theorem appendBytes_fill (n : Nat) : (appendBytes n s).fill = BitVec.ofNat 8 (s.fill.toNat + n) := by
  unfold appendBytes; rfl
@[simp] theorem appendBytes_mlen (n : Nat) : (appendBytes n s).mlen =
    BitVec.ofNat 128 ((s.mlen.toNat + 8 * n) % 2 ^ lenBits s.alg) := by unfold appendBytes; rfl
@[simp] theorem appendBytes_cph (n : Nat) : (appendBytes n s).cph = s.cph := by unfold appendBytes; rfl
@[simp] theorem appendBytes_t (n : Nat) : (appendBytes n s).t = s.t := by unfold appendBytes; rfl
@[simp] theorem appendBytes_pstage (n : Nat) : (appendBytes n s).pstage = s.pstage := by unfold appendBytes; rfl
@[simp] theorem appendBytes_engineBase (n : Nat) : (appendBytes n s).engineBase = s.engineBase := by
  unfold appendBytes; rfl
@[simp] theorem appendBytes_host (n : Nat) : (appendBytes n s).host = s.host := by unfold appendBytes; rfl
@[simp] theorem appendBytes_turns (n : Nat) : (appendBytes n s).turns = s.turns := by unfold appendBytes; rfl
@[simp] theorem appendBytes_responses (n : Nat) : (appendBytes n s).responses = s.responses := by
  unfold appendBytes; rfl
@[simp] theorem appendBytes_draws (n : Nat) : (appendBytes n s).draws = s.draws := by unfold appendBytes; rfl

/-! Platform reset (70_reset_and_hazards.md R390). -/

@[simp] theorem applyReset_mode : (applyReset s).mode = .uninit := by unfold applyReset; rfl
@[simp] theorem applyReset_alg : (applyReset s).alg = .sha1 := by unfold applyReset; rfl
@[simp] theorem applyReset_errcode : (applyReset s).errcode = .noError := by unfold applyReset; rfl
@[simp] theorem applyReset_data : (applyReset s).data = 0#32 := by unfold applyReset; rfl
@[simp] theorem applyReset_h : (applyReset s).h = writeRange s.h 0 8 (Config.resetH s.draws) := by
  unfold applyReset; rfl
@[simp] theorem applyReset_v : (applyReset s).v = writeRange s.v 0 8 (Config.resetV s.draws) := by
  unfold applyReset; rfl
@[simp] theorem applyReset_sch : (applyReset s).sch = writeRange s.sch 0 80 (Config.resetS s.draws) := by
  unfold applyReset; rfl
@[simp] theorem applyReset_buf : (applyReset s).buf = writeRange s.buf 0 128 (Config.resetBuf s.draws) := by
  unfold applyReset; rfl
@[simp] theorem applyReset_fill : (applyReset s).fill = 0#8 := by unfold applyReset; rfl
@[simp] theorem applyReset_mlen : (applyReset s).mlen = Config.resetMlen s.draws := by unfold applyReset; rfl
@[simp] theorem applyReset_cph : (applyReset s).cph = .idle := by unfold applyReset; rfl
@[simp] theorem applyReset_t : (applyReset s).t = 0#7 := by unfold applyReset; rfl
@[simp] theorem applyReset_pstage : (applyReset s).pstage = .none := by unfold applyReset; rfl
@[simp] theorem applyReset_engineBase : (applyReset s).engineBase = s.engineBase := by unfold applyReset; rfl
@[simp] theorem applyReset_host : (applyReset s).host = s.host := by unfold applyReset; rfl
@[simp] theorem applyReset_turns : (applyReset s).turns = s.turns := by unfold applyReset; rfl
@[simp] theorem applyReset_responses : (applyReset s).responses = s.responses := by unfold applyReset; rfl
@[simp] theorem applyReset_draws : (applyReset s).draws = s.draws + 1 := by unfold applyReset; rfl

/-! LOAD (46_sequencer.md R322). -/

@[simp] theorem stepLoad_mode : (stepLoad s).mode = s.mode := by unfold stepLoad; rfl
@[simp] theorem stepLoad_alg : (stepLoad s).alg = s.alg := by unfold stepLoad; rfl
@[simp] theorem stepLoad_errcode : (stepLoad s).errcode = s.errcode := by unfold stepLoad; rfl
@[simp] theorem stepLoad_data : (stepLoad s).data = s.data := by unfold stepLoad; rfl
@[simp] theorem stepLoad_h : (stepLoad s).h = s.h := by unfold stepLoad; rfl
@[simp] theorem stepLoad_v : (stepLoad s).v = writeRange s.v 0 (stateWords s.alg) fun i => readAt s.h i 0#64 := by
  unfold stepLoad; rfl
@[simp] theorem stepLoad_sch : (stepLoad s).sch =
    writeRange s.sch 0 16 fun j => beWord (fun k => readAt s.buf k 0#8) j (wordBytes s.alg) := by unfold stepLoad; rfl
@[simp] theorem stepLoad_buf : (stepLoad s).buf = s.buf := by unfold stepLoad; rfl
@[simp] theorem stepLoad_fill : (stepLoad s).fill = s.fill := by unfold stepLoad; rfl
@[simp] theorem stepLoad_mlen : (stepLoad s).mlen = s.mlen := by unfold stepLoad; rfl
@[simp] theorem stepLoad_cph : (stepLoad s).cph = .expand := by unfold stepLoad; rfl
@[simp] theorem stepLoad_t : (stepLoad s).t = 16#7 := by unfold stepLoad; rfl
@[simp] theorem stepLoad_pstage : (stepLoad s).pstage = s.pstage := by unfold stepLoad; rfl
@[simp] theorem stepLoad_engineBase : (stepLoad s).engineBase = s.engineBase := by unfold stepLoad; rfl
@[simp] theorem stepLoad_host : (stepLoad s).host = s.host := by unfold stepLoad; rfl
@[simp] theorem stepLoad_turns : (stepLoad s).turns = s.turns := by unfold stepLoad; rfl
@[simp] theorem stepLoad_responses : (stepLoad s).responses = s.responses := by unfold stepLoad; rfl
@[simp] theorem stepLoad_draws : (stepLoad s).draws = s.draws := by unfold stepLoad; rfl

/-! EXPAND (R323). -/

@[simp] theorem stepExpand_mode : (stepExpand s).mode = s.mode := by unfold stepExpand; rfl
@[simp] theorem stepExpand_alg : (stepExpand s).alg = s.alg := by unfold stepExpand; rfl
@[simp] theorem stepExpand_errcode : (stepExpand s).errcode = s.errcode := by unfold stepExpand; rfl
@[simp] theorem stepExpand_data : (stepExpand s).data = s.data := by unfold stepExpand; rfl
@[simp] theorem stepExpand_h : (stepExpand s).h = s.h := by unfold stepExpand; rfl
@[simp] theorem stepExpand_v : (stepExpand s).v = s.v := by unfold stepExpand; rfl
@[simp] theorem stepExpand_sch : (stepExpand s).sch =
    writeAt s.sch s.t.toNat (expandWord s.alg (fun i => readAt s.sch i 0#64) s.t.toNat) := by unfold stepExpand; rfl
@[simp] theorem stepExpand_buf : (stepExpand s).buf = s.buf := by unfold stepExpand; rfl
@[simp] theorem stepExpand_fill : (stepExpand s).fill = s.fill := by unfold stepExpand; rfl
@[simp] theorem stepExpand_mlen : (stepExpand s).mlen = s.mlen := by unfold stepExpand; rfl
@[simp] theorem stepExpand_cph : (stepExpand s).cph = if s.t.toNat + 1 = rounds s.alg then .round else .expand := by
  unfold stepExpand; rfl
@[simp] theorem stepExpand_t : (stepExpand s).t =
    if s.t.toNat + 1 = rounds s.alg then 0#7 else BitVec.ofNat 7 (s.t.toNat + 1) := by unfold stepExpand; rfl
@[simp] theorem stepExpand_pstage : (stepExpand s).pstage = s.pstage := by unfold stepExpand; rfl
@[simp] theorem stepExpand_engineBase : (stepExpand s).engineBase = s.engineBase := by unfold stepExpand; rfl
@[simp] theorem stepExpand_host : (stepExpand s).host = s.host := by unfold stepExpand; rfl
@[simp] theorem stepExpand_turns : (stepExpand s).turns = s.turns := by unfold stepExpand; rfl
@[simp] theorem stepExpand_responses : (stepExpand s).responses = s.responses := by unfold stepExpand; rfl
@[simp] theorem stepExpand_draws : (stepExpand s).draws = s.draws := by unfold stepExpand; rfl

/-! ROUND (R324). -/

@[simp] theorem stepRound_mode : (stepRound s).mode = s.mode := by unfold stepRound; rfl
@[simp] theorem stepRound_alg : (stepRound s).alg = s.alg := by unfold stepRound; rfl
@[simp] theorem stepRound_errcode : (stepRound s).errcode = s.errcode := by unfold stepRound; rfl
@[simp] theorem stepRound_data : (stepRound s).data = s.data := by unfold stepRound; rfl
@[simp] theorem stepRound_h : (stepRound s).h = s.h := by unfold stepRound; rfl
@[simp] theorem stepRound_v : (stepRound s).v = roundStep s.alg s.t.toNat (readAt s.sch s.t.toNat 0#64) s.v := by
  unfold stepRound; rfl
@[simp] theorem stepRound_sch : (stepRound s).sch = s.sch := by unfold stepRound; rfl
@[simp] theorem stepRound_buf : (stepRound s).buf = s.buf := by unfold stepRound; rfl
@[simp] theorem stepRound_fill : (stepRound s).fill = s.fill := by unfold stepRound; rfl
@[simp] theorem stepRound_mlen : (stepRound s).mlen = s.mlen := by unfold stepRound; rfl
@[simp] theorem stepRound_cph : (stepRound s).cph = if s.t.toNat + 1 = rounds s.alg then .fold else .round := by
  unfold stepRound; rfl
@[simp] theorem stepRound_t : (stepRound s).t = BitVec.ofNat 7 (s.t.toNat + 1) := by unfold stepRound; rfl
@[simp] theorem stepRound_pstage : (stepRound s).pstage = s.pstage := by unfold stepRound; rfl
@[simp] theorem stepRound_engineBase : (stepRound s).engineBase = s.engineBase := by unfold stepRound; rfl
@[simp] theorem stepRound_host : (stepRound s).host = s.host := by unfold stepRound; rfl
@[simp] theorem stepRound_turns : (stepRound s).turns = s.turns := by unfold stepRound; rfl
@[simp] theorem stepRound_responses : (stepRound s).responses = s.responses := by unfold stepRound; rfl
@[simp] theorem stepRound_draws : (stepRound s).draws = s.draws := by unfold stepRound; rfl

/-! FOLD (R325). -/

@[simp] theorem stepFold_mode : (stepFold s).mode = modeAfterFold s := by unfold stepFold; rfl
@[simp] theorem stepFold_alg : (stepFold s).alg = s.alg := by unfold stepFold; rfl
@[simp] theorem stepFold_errcode : (stepFold s).errcode = s.errcode := by unfold stepFold; rfl
@[simp] theorem stepFold_data : (stepFold s).data = s.data := by unfold stepFold; rfl
@[simp] theorem stepFold_h : (stepFold s).h = foldHash s.alg s.h s.v := by unfold stepFold; rfl
@[simp] theorem stepFold_v : (stepFold s).v = s.v := by unfold stepFold; rfl
@[simp] theorem stepFold_sch : (stepFold s).sch = s.sch := by unfold stepFold; rfl
@[simp] theorem stepFold_buf : (stepFold s).buf = s.buf := by unfold stepFold; rfl
@[simp] theorem stepFold_fill : (stepFold s).fill = 0#8 := by unfold stepFold; rfl
@[simp] theorem stepFold_mlen : (stepFold s).mlen = s.mlen := by unfold stepFold; rfl
@[simp] theorem stepFold_cph : (stepFold s).cph = .idle := by unfold stepFold; rfl
@[simp] theorem stepFold_t : (stepFold s).t = 0#7 := by unfold stepFold; rfl
@[simp] theorem stepFold_pstage : (stepFold s).pstage = pstageAfterFold s := by unfold stepFold; rfl
@[simp] theorem stepFold_engineBase : (stepFold s).engineBase = s.engineBase := by unfold stepFold; rfl
@[simp] theorem stepFold_host : (stepFold s).host = s.host := by unfold stepFold; rfl
@[simp] theorem stepFold_turns : (stepFold s).turns = s.turns := by unfold stepFold; rfl
@[simp] theorem stepFold_responses : (stepFold s).responses = s.responses := by unfold stepFold; rfl
@[simp] theorem stepFold_draws : (stepFold s).draws = s.draws := by unfold stepFold; rfl

/-! MARK (R326). -/

@[simp] theorem stepMark_mode : (stepMark s).mode = s.mode := by unfold stepMark; rfl
@[simp] theorem stepMark_alg : (stepMark s).alg = s.alg := by unfold stepMark; rfl
@[simp] theorem stepMark_errcode : (stepMark s).errcode = s.errcode := by unfold stepMark; rfl
@[simp] theorem stepMark_data : (stepMark s).data = s.data := by unfold stepMark; rfl
@[simp] theorem stepMark_h : (stepMark s).h = s.h := by unfold stepMark; rfl
@[simp] theorem stepMark_v : (stepMark s).v = s.v := by unfold stepMark; rfl
@[simp] theorem stepMark_sch : (stepMark s).sch = s.sch := by unfold stepMark; rfl
@[simp] theorem stepMark_buf : (stepMark s).buf = writeAt s.buf s.fill.toNat 0x80#8 := by unfold stepMark; rfl
@[simp] theorem stepMark_fill : (stepMark s).fill = BitVec.ofNat 8 (s.fill.toNat + 1) := by unfold stepMark; rfl
@[simp] theorem stepMark_mlen : (stepMark s).mlen = s.mlen := by unfold stepMark; rfl
@[simp] theorem stepMark_cph : (stepMark s).cph = s.cph := by unfold stepMark; rfl
@[simp] theorem stepMark_t : (stepMark s).t = s.t := by unfold stepMark; rfl
@[simp] theorem stepMark_pstage : (stepMark s).pstage =
    if s.fill.toNat + 1 ≤ blockBytes s.alg - lenBytes s.alg then .len else .zfull := by unfold stepMark; rfl
@[simp] theorem stepMark_engineBase : (stepMark s).engineBase = s.engineBase := by unfold stepMark; rfl
@[simp] theorem stepMark_host : (stepMark s).host = s.host := by unfold stepMark; rfl
@[simp] theorem stepMark_turns : (stepMark s).turns = s.turns := by unfold stepMark; rfl
@[simp] theorem stepMark_responses : (stepMark s).responses = s.responses := by unfold stepMark; rfl
@[simp] theorem stepMark_draws : (stepMark s).draws = s.draws := by unfold stepMark; rfl

/-! ZFULL (R327). -/

@[simp] theorem stepZfull_mode : (stepZfull s).mode = s.mode := by unfold stepZfull; rfl
@[simp] theorem stepZfull_alg : (stepZfull s).alg = s.alg := by unfold stepZfull; rfl
@[simp] theorem stepZfull_errcode : (stepZfull s).errcode = s.errcode := by unfold stepZfull; rfl
@[simp] theorem stepZfull_data : (stepZfull s).data = s.data := by unfold stepZfull; rfl
@[simp] theorem stepZfull_h : (stepZfull s).h = s.h := by unfold stepZfull; rfl
@[simp] theorem stepZfull_v : (stepZfull s).v = s.v := by unfold stepZfull; rfl
@[simp] theorem stepZfull_sch : (stepZfull s).sch = s.sch := by unfold stepZfull; rfl
@[simp] theorem stepZfull_buf : (stepZfull s).buf =
    writeRange s.buf s.fill.toNat (blockBytes s.alg) fun _ => 0x00#8 := by unfold stepZfull; rfl
@[simp] theorem stepZfull_fill : (stepZfull s).fill = BitVec.ofNat 8 (blockBytes s.alg) := by unfold stepZfull; rfl
@[simp] theorem stepZfull_mlen : (stepZfull s).mlen = s.mlen := by unfold stepZfull; rfl
@[simp] theorem stepZfull_cph : (stepZfull s).cph = .load := by unfold stepZfull; rfl
@[simp] theorem stepZfull_t : (stepZfull s).t = s.t := by unfold stepZfull; rfl
@[simp] theorem stepZfull_pstage : (stepZfull s).pstage = .second := by unfold stepZfull; rfl
@[simp] theorem stepZfull_engineBase : (stepZfull s).engineBase = s.engineBase := by unfold stepZfull; rfl
@[simp] theorem stepZfull_host : (stepZfull s).host = s.host := by unfold stepZfull; rfl
@[simp] theorem stepZfull_turns : (stepZfull s).turns = s.turns := by unfold stepZfull; rfl
@[simp] theorem stepZfull_responses : (stepZfull s).responses = s.responses := by unfold stepZfull; rfl
@[simp] theorem stepZfull_draws : (stepZfull s).draws = s.draws := by unfold stepZfull; rfl

/-! LEN (R328). -/

@[simp] theorem stepLen_mode : (stepLen s).mode = s.mode := by unfold stepLen; rfl
@[simp] theorem stepLen_alg : (stepLen s).alg = s.alg := by unfold stepLen; rfl
@[simp] theorem stepLen_errcode : (stepLen s).errcode = s.errcode := by unfold stepLen; rfl
@[simp] theorem stepLen_data : (stepLen s).data = s.data := by unfold stepLen; rfl
@[simp] theorem stepLen_h : (stepLen s).h = s.h := by unfold stepLen; rfl
@[simp] theorem stepLen_v : (stepLen s).v = s.v := by unfold stepLen; rfl
@[simp] theorem stepLen_sch : (stepLen s).sch = s.sch := by unfold stepLen; rfl
@[simp] theorem stepLen_buf : (stepLen s).buf =
    writeRange
      (writeRange s.buf s.fill.toNat (blockBytes s.alg - lenBytes s.alg) fun _ => 0x00#8)
      (blockBytes s.alg - lenBytes s.alg) (blockBytes s.alg)
      fun i => beByte s.mlen.toNat (lenBytes s.alg) (i - (blockBytes s.alg - lenBytes s.alg)) := by
  unfold stepLen; rfl
@[simp] theorem stepLen_fill : (stepLen s).fill = BitVec.ofNat 8 (blockBytes s.alg) := by unfold stepLen; rfl
@[simp] theorem stepLen_mlen : (stepLen s).mlen = s.mlen := by unfold stepLen; rfl
@[simp] theorem stepLen_cph : (stepLen s).cph = .load := by unfold stepLen; rfl
@[simp] theorem stepLen_t : (stepLen s).t = s.t := by unfold stepLen; rfl
@[simp] theorem stepLen_pstage : (stepLen s).pstage = .last := by unfold stepLen; rfl
@[simp] theorem stepLen_engineBase : (stepLen s).engineBase = s.engineBase := by unfold stepLen; rfl
@[simp] theorem stepLen_host : (stepLen s).host = s.host := by unfold stepLen; rfl
@[simp] theorem stepLen_turns : (stepLen s).turns = s.turns := by unfold stepLen; rfl
@[simp] theorem stepLen_responses : (stepLen s).responses = s.responses := by unfold stepLen; rfl
@[simp] theorem stepLen_draws : (stepLen s).draws = s.draws := by unfold stepLen; rfl

/-! A read of the window (20_memory.md R79). -/

@[simp] theorem respond_mode (value : BitVec 32) : (respond value s).mode = s.mode := by unfold respond; rfl
@[simp] theorem respond_alg (value : BitVec 32) : (respond value s).alg = s.alg := by unfold respond; rfl
@[simp] theorem respond_errcode (value : BitVec 32) : (respond value s).errcode = s.errcode := by unfold respond; rfl
@[simp] theorem respond_data (value : BitVec 32) : (respond value s).data = s.data := by unfold respond; rfl
@[simp] theorem respond_h (value : BitVec 32) : (respond value s).h = s.h := by unfold respond; rfl
@[simp] theorem respond_v (value : BitVec 32) : (respond value s).v = s.v := by unfold respond; rfl
@[simp] theorem respond_sch (value : BitVec 32) : (respond value s).sch = s.sch := by unfold respond; rfl
@[simp] theorem respond_buf (value : BitVec 32) : (respond value s).buf = s.buf := by unfold respond; rfl
@[simp] theorem respond_fill (value : BitVec 32) : (respond value s).fill = s.fill := by unfold respond; rfl
@[simp] theorem respond_mlen (value : BitVec 32) : (respond value s).mlen = s.mlen := by unfold respond; rfl
@[simp] theorem respond_cph (value : BitVec 32) : (respond value s).cph = s.cph := by unfold respond; rfl
@[simp] theorem respond_t (value : BitVec 32) : (respond value s).t = s.t := by unfold respond; rfl
@[simp] theorem respond_pstage (value : BitVec 32) : (respond value s).pstage = s.pstage := by unfold respond; rfl
@[simp] theorem respond_engineBase (value : BitVec 32) : (respond value s).engineBase = s.engineBase := by
  unfold respond; rfl
@[simp] theorem respond_host (value : BitVec 32) : (respond value s).host = s.host := by unfold respond; rfl
@[simp] theorem respond_turns (value : BitVec 32) : (respond value s).turns = s.turns := by unfold respond; rfl
@[simp] theorem respond_responses (value : BitVec 32) : (respond value s).responses = value :: s.responses := by
  unfold respond; rfl
@[simp] theorem respond_draws (value : BitVec 32) : (respond value s).draws = s.draws := by unfold respond; rfl

/-! A read outside the window (R70). -/

@[simp] theorem respondFromPlatform_mode : (respondFromPlatform s).mode = s.mode := by unfold respondFromPlatform; rfl
@[simp] theorem respondFromPlatform_alg : (respondFromPlatform s).alg = s.alg := by unfold respondFromPlatform; rfl
@[simp] theorem respondFromPlatform_errcode : (respondFromPlatform s).errcode = s.errcode := by
  unfold respondFromPlatform; rfl
@[simp] theorem respondFromPlatform_data : (respondFromPlatform s).data = s.data := by unfold respondFromPlatform; rfl
@[simp] theorem respondFromPlatform_h : (respondFromPlatform s).h = s.h := by unfold respondFromPlatform; rfl
@[simp] theorem respondFromPlatform_v : (respondFromPlatform s).v = s.v := by unfold respondFromPlatform; rfl
@[simp] theorem respondFromPlatform_sch : (respondFromPlatform s).sch = s.sch := by unfold respondFromPlatform; rfl
@[simp] theorem respondFromPlatform_buf : (respondFromPlatform s).buf = s.buf := by unfold respondFromPlatform; rfl
@[simp] theorem respondFromPlatform_fill : (respondFromPlatform s).fill = s.fill := by unfold respondFromPlatform; rfl
@[simp] theorem respondFromPlatform_mlen : (respondFromPlatform s).mlen = s.mlen := by unfold respondFromPlatform; rfl
@[simp] theorem respondFromPlatform_cph : (respondFromPlatform s).cph = s.cph := by unfold respondFromPlatform; rfl
@[simp] theorem respondFromPlatform_t : (respondFromPlatform s).t = s.t := by unfold respondFromPlatform; rfl
@[simp] theorem respondFromPlatform_pstage : (respondFromPlatform s).pstage = s.pstage := by
  unfold respondFromPlatform; rfl
@[simp] theorem respondFromPlatform_engineBase : (respondFromPlatform s).engineBase = s.engineBase := by
  unfold respondFromPlatform; rfl
@[simp] theorem respondFromPlatform_host : (respondFromPlatform s).host = s.host := by unfold respondFromPlatform; rfl
@[simp] theorem respondFromPlatform_turns : (respondFromPlatform s).turns = s.turns := by
  unfold respondFromPlatform; rfl
@[simp] theorem respondFromPlatform_responses : (respondFromPlatform s).responses =
    Config.platformRead s.draws :: s.responses := by unfold respondFromPlatform; rfl
@[simp] theorem respondFromPlatform_draws : (respondFromPlatform s).draws = s.draws + 1 := by
  unfold respondFromPlatform; rfl

/-! A poll of WAIT (30_encoding.md R110). -/

@[simp] theorem pollStatus_mode (rest : List HostOp) : (pollStatus rest s).mode = s.mode := by unfold pollStatus; rfl
@[simp] theorem pollStatus_alg (rest : List HostOp) : (pollStatus rest s).alg = s.alg := by unfold pollStatus; rfl
@[simp] theorem pollStatus_errcode (rest : List HostOp) : (pollStatus rest s).errcode = s.errcode := by
  unfold pollStatus; rfl
@[simp] theorem pollStatus_data (rest : List HostOp) : (pollStatus rest s).data = s.data := by unfold pollStatus; rfl
@[simp] theorem pollStatus_h (rest : List HostOp) : (pollStatus rest s).h = s.h := by unfold pollStatus; rfl
@[simp] theorem pollStatus_v (rest : List HostOp) : (pollStatus rest s).v = s.v := by unfold pollStatus; rfl
@[simp] theorem pollStatus_sch (rest : List HostOp) : (pollStatus rest s).sch = s.sch := by unfold pollStatus; rfl
@[simp] theorem pollStatus_buf (rest : List HostOp) : (pollStatus rest s).buf = s.buf := by unfold pollStatus; rfl
@[simp] theorem pollStatus_fill (rest : List HostOp) : (pollStatus rest s).fill = s.fill := by unfold pollStatus; rfl
@[simp] theorem pollStatus_mlen (rest : List HostOp) : (pollStatus rest s).mlen = s.mlen := by unfold pollStatus; rfl
@[simp] theorem pollStatus_cph (rest : List HostOp) : (pollStatus rest s).cph = s.cph := by unfold pollStatus; rfl
@[simp] theorem pollStatus_t (rest : List HostOp) : (pollStatus rest s).t = s.t := by unfold pollStatus; rfl
@[simp] theorem pollStatus_pstage (rest : List HostOp) : (pollStatus rest s).pstage = s.pstage := by
  unfold pollStatus; rfl
@[simp] theorem pollStatus_engineBase (rest : List HostOp) : (pollStatus rest s).engineBase = s.engineBase := by
  unfold pollStatus; rfl
@[simp] theorem pollStatus_host (rest : List HostOp) : (pollStatus rest s).host =
    if showsBusy (statusWord s) then .wait :: rest else rest := by unfold pollStatus; rfl
@[simp] theorem pollStatus_turns (rest : List HostOp) : (pollStatus rest s).turns = s.turns := by
  unfold pollStatus; rfl
@[simp] theorem pollStatus_responses (rest : List HostOp) : (pollStatus rest s).responses =
    statusWord s :: s.responses := by unfold pollStatus; rfl
@[simp] theorem pollStatus_draws (rest : List HostOp) : (pollStatus rest s).draws = s.draws := by
  unfold pollStatus; rfl

/-! A host operation issued. -/

@[simp] theorem issued_mode : (issued s).mode = s.mode := by unfold issued; rfl
@[simp] theorem issued_alg : (issued s).alg = s.alg := by unfold issued; rfl
@[simp] theorem issued_errcode : (issued s).errcode = s.errcode := by unfold issued; rfl
@[simp] theorem issued_data : (issued s).data = s.data := by unfold issued; rfl
@[simp] theorem issued_h : (issued s).h = s.h := by unfold issued; rfl
@[simp] theorem issued_v : (issued s).v = s.v := by unfold issued; rfl
@[simp] theorem issued_sch : (issued s).sch = s.sch := by unfold issued; rfl
@[simp] theorem issued_buf : (issued s).buf = s.buf := by unfold issued; rfl
@[simp] theorem issued_fill : (issued s).fill = s.fill := by unfold issued; rfl
@[simp] theorem issued_mlen : (issued s).mlen = s.mlen := by unfold issued; rfl
@[simp] theorem issued_cph : (issued s).cph = s.cph := by unfold issued; rfl
@[simp] theorem issued_t : (issued s).t = s.t := by unfold issued; rfl
@[simp] theorem issued_pstage : (issued s).pstage = s.pstage := by unfold issued; rfl
@[simp] theorem issued_engineBase : (issued s).engineBase = s.engineBase := by unfold issued; rfl
@[simp] theorem issued_host : (issued s).host = s.host.tail := by unfold issued; rfl
@[simp] theorem issued_turns : (issued s).turns = s.turns.tail := by unfold issued; rfl
@[simp] theorem issued_responses : (issued s).responses = s.responses := by unfold issued; rfl
@[simp] theorem issued_draws : (issued s).draws = s.draws := by unfold issued; rfl

/-! A turn taken. -/

@[simp] theorem turnTaken_mode : (turnTaken s).mode = s.mode := by unfold turnTaken; rfl
@[simp] theorem turnTaken_alg : (turnTaken s).alg = s.alg := by unfold turnTaken; rfl
@[simp] theorem turnTaken_errcode : (turnTaken s).errcode = s.errcode := by unfold turnTaken; rfl
@[simp] theorem turnTaken_data : (turnTaken s).data = s.data := by unfold turnTaken; rfl
@[simp] theorem turnTaken_h : (turnTaken s).h = s.h := by unfold turnTaken; rfl
@[simp] theorem turnTaken_v : (turnTaken s).v = s.v := by unfold turnTaken; rfl
@[simp] theorem turnTaken_sch : (turnTaken s).sch = s.sch := by unfold turnTaken; rfl
@[simp] theorem turnTaken_buf : (turnTaken s).buf = s.buf := by unfold turnTaken; rfl
@[simp] theorem turnTaken_fill : (turnTaken s).fill = s.fill := by unfold turnTaken; rfl
@[simp] theorem turnTaken_mlen : (turnTaken s).mlen = s.mlen := by unfold turnTaken; rfl
@[simp] theorem turnTaken_cph : (turnTaken s).cph = s.cph := by unfold turnTaken; rfl
@[simp] theorem turnTaken_t : (turnTaken s).t = s.t := by unfold turnTaken; rfl
@[simp] theorem turnTaken_pstage : (turnTaken s).pstage = s.pstage := by unfold turnTaken; rfl
@[simp] theorem turnTaken_engineBase : (turnTaken s).engineBase = s.engineBase := by unfold turnTaken; rfl
@[simp] theorem turnTaken_host : (turnTaken s).host = s.host := by unfold turnTaken; rfl
@[simp] theorem turnTaken_turns : (turnTaken s).turns = s.turns.tail := by unfold turnTaken; rfl
@[simp] theorem turnTaken_responses : (turnTaken s).responses = s.responses := by unfold turnTaken; rfl
@[simp] theorem turnTaken_draws : (turnTaken s).draws = s.draws := by unfold turnTaken; rfl

/-! A write of DATA (45_host_commands.md R285). -/

@[simp] theorem writeData_mode (value : BitVec 32) : (writeData value s).mode = s.mode := by unfold writeData; rfl
@[simp] theorem writeData_alg (value : BitVec 32) : (writeData value s).alg = s.alg := by unfold writeData; rfl
@[simp] theorem writeData_errcode (value : BitVec 32) : (writeData value s).errcode = s.errcode := by
  unfold writeData; rfl
@[simp] theorem writeData_data (value : BitVec 32) : (writeData value s).data = value := by unfold writeData; rfl
@[simp] theorem writeData_h (value : BitVec 32) : (writeData value s).h = s.h := by unfold writeData; rfl
@[simp] theorem writeData_v (value : BitVec 32) : (writeData value s).v = s.v := by unfold writeData; rfl
@[simp] theorem writeData_sch (value : BitVec 32) : (writeData value s).sch = s.sch := by unfold writeData; rfl
@[simp] theorem writeData_buf (value : BitVec 32) : (writeData value s).buf = s.buf := by unfold writeData; rfl
@[simp] theorem writeData_fill (value : BitVec 32) : (writeData value s).fill = s.fill := by unfold writeData; rfl
@[simp] theorem writeData_mlen (value : BitVec 32) : (writeData value s).mlen = s.mlen := by unfold writeData; rfl
@[simp] theorem writeData_cph (value : BitVec 32) : (writeData value s).cph = s.cph := by unfold writeData; rfl
@[simp] theorem writeData_t (value : BitVec 32) : (writeData value s).t = s.t := by unfold writeData; rfl
@[simp] theorem writeData_pstage (value : BitVec 32) : (writeData value s).pstage = s.pstage := by
  unfold writeData; rfl
@[simp] theorem writeData_engineBase (value : BitVec 32) : (writeData value s).engineBase = s.engineBase := by
  unfold writeData; rfl
@[simp] theorem writeData_host (value : BitVec 32) : (writeData value s).host = s.host := by unfold writeData; rfl
@[simp] theorem writeData_turns (value : BitVec 32) : (writeData value s).turns = s.turns := by unfold writeData; rfl
@[simp] theorem writeData_responses (value : BitVec 32) : (writeData value s).responses = s.responses := by
  unfold writeData; rfl
@[simp] theorem writeData_draws (value : BitVec 32) : (writeData value s).draws = s.draws := by unfold writeData; rfl

/-! The start of a full block's compression (45_host_commands.md R283). -/

@[simp] theorem startFullBlock_alg : (startFullBlock s).alg = s.alg := by
  unfold startFullBlock; split <;> rfl
@[simp] theorem startFullBlock_errcode : (startFullBlock s).errcode = s.errcode := by
  unfold startFullBlock; split <;> rfl
@[simp] theorem startFullBlock_data : (startFullBlock s).data = s.data := by
  unfold startFullBlock; split <;> rfl
@[simp] theorem startFullBlock_h : (startFullBlock s).h = s.h := by
  unfold startFullBlock; split <;> rfl
@[simp] theorem startFullBlock_v : (startFullBlock s).v = s.v := by
  unfold startFullBlock; split <;> rfl
@[simp] theorem startFullBlock_sch : (startFullBlock s).sch = s.sch := by
  unfold startFullBlock; split <;> rfl
@[simp] theorem startFullBlock_buf : (startFullBlock s).buf = s.buf := by
  unfold startFullBlock; split <;> rfl
@[simp] theorem startFullBlock_fill : (startFullBlock s).fill = s.fill := by
  unfold startFullBlock; split <;> rfl
@[simp] theorem startFullBlock_mlen : (startFullBlock s).mlen = s.mlen := by
  unfold startFullBlock; split <;> rfl
@[simp] theorem startFullBlock_t : (startFullBlock s).t = s.t := by
  unfold startFullBlock; split <;> rfl
@[simp] theorem startFullBlock_pstage : (startFullBlock s).pstage = s.pstage := by
  unfold startFullBlock; split <;> rfl
@[simp] theorem startFullBlock_engineBase : (startFullBlock s).engineBase = s.engineBase := by
  unfold startFullBlock; split <;> rfl
@[simp] theorem startFullBlock_host : (startFullBlock s).host = s.host := by
  unfold startFullBlock; split <;> rfl
@[simp] theorem startFullBlock_turns : (startFullBlock s).turns = s.turns := by
  unfold startFullBlock; split <;> rfl
@[simp] theorem startFullBlock_responses : (startFullBlock s).responses = s.responses := by
  unfold startFullBlock; split <;> rfl
@[simp] theorem startFullBlock_draws : (startFullBlock s).draws = s.draws := by
  unfold startFullBlock; split <;> rfl

theorem startFullBlock_mode :
    (startFullBlock s).mode = if s.fill.toNat = blockBytes s.alg then .busyBlock else s.mode := by
  unfold startFullBlock; split <;> rfl

theorem startFullBlock_cph :
    (startFullBlock s).cph = if s.fill.toNat = blockBytes s.alg then .load else s.cph := by
  unfold startFullBlock; split <;> rfl

end Sys2Proof.Machine
end

