-- ==== Sys2Proof/Laws/Exec.lean ====
section
/-!
SUPPORT. What each shared operation and each command can do, said once.
-/

namespace Sys2Proof.Machine

/-! ## Commands -/

theorem ofField_field (a : Alg) : Alg.ofField a.field = some a := by cases a <;> decide

theorem ofField_three : Alg.ofField 3#2 = none := by decide

theorem ofField_eq_some (x : BitVec 2) (a : Alg) : Alg.ofField x = some a ↔ x = a.field := by
  revert x; cases a <;> decide

/-- Every ALG field is an algorithm's or 3. -/
theorem field_cases (x : BitVec 2) : x = 3#2 ∨ ∃ a : Alg, x = a.field := by
  have h : ∀ x : BitVec 2, x = 3#2 ∨ x = Alg.sha1.field ∨ x = Alg.sha256.field ∨ x = Alg.sha512.field := by decide
  rcases h x with h | h | h | h
  · exact .inl h
  · exact .inr ⟨_, h⟩
  · exact .inr ⟨_, h⟩
  · exact .inr ⟨_, h⟩

theorem execInit_field (a : Alg) (s : State) : execInit a.field s = .next (startComputation a s) := by
  unfold execInit; rw [ofField_field]

theorem execInit_three (s : State) : execInit 3#2 s = .next (raiseError .illegalAlg s) := by
  unfold execInit; rw [ofField_three]

/-- The case on STATE, by STATE. -/
theorem whenAccepting_cases (s acc : State) :
    (s.mode = .accept ∧ whenAccepting s acc = acc)
    ∨ (s.mode = .uninit ∧ whenAccepting s acc = raiseError .notInit s)
    ∨ (s.busy = true ∧ whenAccepting s acc = raiseError .busy s)
    ∨ (s.mode = .done ∧ whenAccepting s acc = raiseError .afterDone s)
    ∨ (s.mode = .error ∧ whenAccepting s acc = s) := by
  unfold whenAccepting State.busy
  cases h : s.mode <;> simp

/-- What PUSH does, by STATE. -/
theorem execPush_cases (nb : BitVec 2) (s : State) :
    (s.mode = .accept ∧ s.fill.toNat + pushCount nb ≤ blockBytes s.alg
      ∧ execPush nb s = .next (startFullBlock (appendBytes (pushCount nb) s)))
    ∨ (s.mode = .accept ∧ blockBytes s.alg < s.fill.toNat + pushCount nb
      ∧ execPush nb s = .next (raiseError .overrun s))
    ∨ (s.mode = .uninit ∧ execPush nb s = .next (raiseError .notInit s))
    ∨ (s.busy = true ∧ execPush nb s = .next (raiseError .busy s))
    ∨ (s.mode = .done ∧ execPush nb s = .next (raiseError .afterDone s))
    ∨ (s.mode = .error ∧ execPush nb s = .next s) := by
  unfold execPush
  rcases whenAccepting_cases s (if s.fill.toNat + pushCount nb > blockBytes s.alg then raiseError .overrun s
      else startFullBlock (appendBytes (pushCount nb) s)) with ⟨h, e⟩ | ⟨h, e⟩ | ⟨h, e⟩ | ⟨h, e⟩ | ⟨h, e⟩
  · by_cases hf : s.fill.toNat + pushCount nb ≤ blockBytes s.alg
    · exact .inl ⟨h, hf, by rw [e, if_neg (by omega)]⟩
    · exact .inr (.inl ⟨h, by omega, by rw [e, if_pos (by omega)]⟩)
  · exact .inr (.inr (.inl ⟨h, by rw [e]⟩))
  · exact .inr (.inr (.inr (.inl ⟨h, by rw [e]⟩)))
  · exact .inr (.inr (.inr (.inr (.inl ⟨h, by rw [e]⟩))))
  · exact .inr (.inr (.inr (.inr (.inr ⟨h, by rw [e]⟩))))

/-- What a command can do to the state: nothing, an error entry, the start of a computation, a PUSH or a FINISH. -/
theorem exec_cases (i : Instr) (s : State) :
    exec i s = .next s
    ∨ (∃ c, c ≠ ErrCode.noError ∧ exec i s = .next (raiseError c s))
    ∨ (∃ a : Alg, i = .init a.field ∧ exec i s = .next (startComputation a s))
    ∨ (∃ nb, i = .push nb ∧ s.mode = .accept ∧ s.fill.toNat + pushCount nb ≤ blockBytes s.alg
        ∧ exec i s = .next (startFullBlock (appendBytes (pushCount nb) s)))
    ∨ (i = .finish ∧ s.mode = .accept ∧ exec i s = .next (startPadding s)) := by
  cases i with
  | nop => exact .inl rfl
  | init x =>
    rcases field_cases x with rfl | ⟨a, rfl⟩
    · exact .inr (.inl ⟨.illegalAlg, by decide, execInit_three s⟩)
    · exact .inr (.inr (.inl ⟨a, rfl, execInit_field a s⟩))
  | push nb =>
    rcases execPush_cases nb s with ⟨h, hf, e⟩ | ⟨-, -, e⟩ | ⟨-, e⟩ | ⟨-, e⟩ | ⟨-, e⟩ | ⟨-, e⟩
    · exact .inr (.inr (.inr (.inl ⟨nb, rfl, h, hf, e⟩)))
    · exact .inr (.inl ⟨.overrun, by decide, e⟩)
    · exact .inr (.inl ⟨.notInit, by decide, e⟩)
    · exact .inr (.inl ⟨.busy, by decide, e⟩)
    · exact .inr (.inl ⟨.afterDone, by decide, e⟩)
    · exact .inl e
  | finish =>
    have u : exec .finish s = .next (whenAccepting s (startPadding s)) := rfl
    rcases whenAccepting_cases s (startPadding s) with ⟨h, e⟩ | ⟨-, e⟩ | ⟨-, e⟩ | ⟨-, e⟩ | ⟨-, e⟩ <;> rw [e] at u
    · exact .inr (.inr (.inr (.inr ⟨rfl, h, u⟩)))
    · exact .inr (.inl ⟨.notInit, by decide, u⟩)
    · exact .inr (.inl ⟨.busy, by decide, u⟩)
    · exact .inr (.inl ⟨.afterDone, by decide, u⟩)
    · exact .inl u

/-- A CMD write always answers a next state. -/
theorem writeCmd_next (w : BitVec 32) (s : State) : ∃ t, writeCmd w s = .next t := by
  unfold writeCmd
  cases decode w with
  | command i =>
    rcases exec_cases i s with e | ⟨_, _, e⟩ | ⟨_, _, e⟩ | ⟨_, _, _, _, e⟩ | ⟨_, _, e⟩ <;> exact ⟨_, e⟩
  | illegal r => exact ⟨_, rfl⟩

/-! ## Engine steps -/

/-- What a busy engine's step can be, when it is not stuck (46_sequencer.md R321). -/
theorem busyStep_cases (s t : State) (h : busyStep s = .next t) :
    (s.cph = .load ∧ t = stepLoad s)
    ∨ (s.cph = .expand ∧ 16 ≤ s.t.toNat ∧ s.t.toNat < rounds s.alg ∧ t = stepExpand s)
    ∨ (s.cph = .round ∧ s.t.toNat < rounds s.alg ∧ t = stepRound s)
    ∨ (s.cph = .fold ∧ t = stepFold s)
    ∨ (s.cph = .idle ∧ s.mode = .busyFinal ∧ s.pstage = .mark ∧ s.fill.toNat < blockBytes s.alg ∧ t = stepMark s)
    ∨ (s.cph = .idle ∧ s.mode = .busyFinal ∧ s.pstage = .zfull ∧ t = stepZfull s)
    ∨ (s.cph = .idle ∧ s.mode = .busyFinal ∧ s.pstage = .len ∧ t = stepLen s) := by
  unfold busyStep at h
  cases hc : s.cph <;> simp only [hc] at h
  · split at h
    · rename_i hm
      unfold paddingStep at h
      cases hp : s.pstage <;> simp only [hp] at h
      · cases h
      · split at h
        · rename_i hf; cases h; simp [hm, hf]
        · cases h
      · cases h; simp [hm]
      · cases h; simp [hm]
      · cases h
      · cases h
    · cases h
  · cases h; simp
  · split at h
    · rename_i hr; cases h; simp [hr]
    · cases h
  · split at h
    · rename_i hr; cases h; simp [hr]
    · cases h
  · cases h; simp

/-- An engine step touches neither the bus side nor DATA, ALG, ERRCODE or MLEN. -/
theorem busyStep_frame (s t : State) (h : busyStep s = .next t) :
    SameBus s t ∧ t.data = s.data ∧ t.alg = s.alg ∧ t.errcode = s.errcode ∧ t.mlen = s.mlen := by
  rcases busyStep_cases s t h with ⟨_, rfl⟩ | ⟨_, _, _, rfl⟩ | ⟨_, _, rfl⟩ | ⟨_, rfl⟩ | ⟨_, _, _, _, rfl⟩ |
    ⟨_, _, _, rfl⟩ | ⟨_, _, _, rfl⟩ <;> simp [SameBus]

end Sys2Proof.Machine
end

