-- ==== Sys2Proof/Laws/PerInstr.lean ====
section
/-!
SUPPORT. Families of facts about the syntax, one lemma per constructor of `Instr`.
-/

namespace Sys2Proof.Laws.Encoding

/-- The mask of the opcode table's row (30_encoding.md R105). -/
def rowMask : Instr → Word
  | .nop => 0xFFFFFFFF#32
  | .init _ => 0xFFFFFFCF#32
  | .push _ => 0xFFFFFCFF#32
  | .finish => 0xFFFFFFFF#32

/-- The match value of the opcode table's row (R105). -/
def rowMatch : Instr → Word
  | .nop => 0x00000000#32
  | .init _ => 0x00000001#32
  | .push _ => 0x00000002#32
  | .finish => 0x00000003#32

/-- The encoder's word matches the command's row of the opcode table. -/
def Statement (i : Instr) : Prop := encode i &&& rowMask i = rowMatch i

theorem nop : Statement .nop := by unfold Statement; decide

theorem init (a : BitVec 2) : Statement (.init a) := by unfold Statement; revert a; decide

theorem push (nb : BitVec 2) : Statement (.push nb) := by unfold Statement; revert nb; decide

theorem finish : Statement .finish := by unfold Statement; decide

end Sys2Proof.Laws.Encoding
end

