-- ==== Sys2Proof/Laws/Step.lean ====
section
/-!
SUPPORT. What a step does, by its event: one equation per event.
-/

namespace Sys2Proof.Machine

theorem turnTaken_eq (s : State) {a : Agent} {rest : List Agent} (h : s.turns = a :: rest) :
    { s with turns := rest } = turnTaken s := by simp [turnTaken, h]

theorem turnTaken_nil (s : State) (h : s.turns = []) : turnTaken s = s := by
  cases s; simp_all [turnTaken]

theorem busy_turnTaken (s : State) : (turnTaken s).busy = s.busy := by simp [State.busy]

/-- The host moves: by its turn, or because the turns list nothing and the engine is not busy. -/
theorem hostMoves_cases (s : State) :
    (step s = hostTurn (turnTaken s) ∧ nextEvent s = hostEvent s)
    ∨ (nextEvent s = .reset ∧ step s = .next (applyReset (turnTaken s)))
    ∨ (nextEvent s = .engineStep ∧ s.busy = true ∧ step s = busyStep (turnTaken s))
    ∨ (nextEvent s = .idle ∧ s.busy = false ∧ step s = .next (turnTaken s)) := by
  unfold step nextEvent
  cases ht : s.turns with
  | nil =>
    rw [turnTaken_nil s ht]
    cases hb : s.busy with
    | true => simp [engineStep, hb]
    | false => simp
  | cons a rest =>
    have e := turnTaken_eq s ht
    cases a with
    | host => left; exact ⟨by simp only [e], rfl⟩
    | platform => right; left; exact ⟨rfl, by simp only [e]⟩
    | engine =>
      simp only [e, engineStep, busy_turnTaken]
      cases hb : s.busy with
      | true => right; right; left; simp
      | false => right; right; right; simp

theorem hostTurn_nil (s : State) (h : s.host = []) : hostTurn s = .next s := by unfold hostTurn; rw [h]

theorem issued_of_cons (s : State) {op : HostOp} {rest : List HostOp} (h : s.host = op :: rest) :
    { turnTaken s with host := rest } = issued s := by simp [issued, turnTaken, h]

/-- What a step does, by its event. -/
theorem step_by_event (s : State) :
    match nextEvent s with
    | .reset => step s = .next (applyReset (turnTaken s))
    | .engineStep => s.busy = true ∧ step s = busyStep (turnTaken s)
    | .idle => step s = .next (turnTaken s)
    | .command w => step s = writeCmd w (issued s)
    | .dataWrite value => step s = .next (writeData value (issued s))
    | .ignoredWrite off => off ≠ 0 ∧ off ≠ 4 ∧ step s = .next (issued s)
    | .read off => step s = .next (respond (readRegister off (issued s)) (issued s))
    | .poll => step s = .next (pollStatus s.host.tail (turnTaken s))
    | .outsideRead => step s = .next (respondFromPlatform (issued s))
    | .outsideWrite => step s = .next (issued s)
    | .violation => step s = .refused .accessOutsideProtocol := by
  rcases hostMoves_cases s with ⟨hs, he⟩ | ⟨he, hs⟩ | ⟨he, hb, hs⟩ | ⟨he, -, hs⟩
  · rw [he, hs]
    unfold hostEvent
    cases hh : s.host with
    | nil => simpa using hostTurn_nil (turnTaken s) (by simp [hh])
    | cons op rest =>
      have ei := issued_of_cons s hh
      cases op with
      | wait => simp [opEvent, hostTurn, hh]
      | read addr width =>
        simp only [opEvent, hostTurn, turnTaken_host, hh, ei, hostRead]
        cases ht : busTarget s.engineBase addr width <;> simp [ht]
      | write addr width value =>
        simp only [opEvent, hostTurn, turnTaken_host, hh, ei, hostWrite]
        cases ht : busTarget s.engineBase addr width with
        | outside => simp [ht]
        | violation => simp [ht]
        | register off =>
          by_cases h0 : off = 0
          · simp [ht, writeRegister, h0]
          · by_cases h4 : off = 4
            · simp [ht, writeRegister, h4]
            · simp [ht, writeRegister, h0, h4]
  · rw [he]; exact hs
  · rw [he]; exact ⟨hb, hs⟩
  · rw [he]; exact hs

end Sys2Proof.Machine
end

