-- ==== Sys2Proof/Tests/Slice0.lean ====
section
/-!
SUPPORT. Tests: expected results come from the spec's examples and vectors (95_test_vectors.md), each named at its
theorem. The witnesses of the statements stand in
Tests/Witness.lean.
-/

namespace Sys2Proof.Tests

open Sys2Proof Sys2Proof.Machine

/-- The outcome is a next state of which `p` holds. -/
def leadsTo (o : Outcome) (p : State → Bool) : Bool :=
  match o with
  | .next t => p t
  | .fault _ => false
  | .refused _ => false

/-- ACCEPT under SHA-256 with nothing pushed. -/
def accept256 : State := startComputation .sha256 State.reset

/-- ACCEPT under SHA-256 with "abc" pushed. -/
def abcPushed : State :=
  { accept256 with data := 0x61626300#32, fill := 3#8, mlen := 24#128,
                   buf := writeRange accept256.buf 0 3 (dataByte 0x61626300#32) }

/-- BUSY_FINAL under SHA-256 with "abc" padded and CPH = LOAD (95_test_vectors.md section 2.9, step 2). -/
def abcPadded : State :=
  { abcPushed with mode := .busyFinal, cph := .load, pstage := .last, fill := 64#8,
                   buf := writeAt (writeAt abcPushed.buf 3 0x80#8) 63 0x18#8 }

/-! ## Well-formedness: an ill-formed term for each check -/

theorem test_wf_refuses_narrow_access : HostOp.wf (.read 0x40 2) = false := by decide
theorem test_wf_refuses_misaligned_access : HostOp.wf (.write 0x42 4 0#32) = false := by decide
theorem test_wf_refuses_push_zero : AsmOp.wf (.push 0) = false := by decide
theorem test_wf_refuses_push_five : AsmOp.wf (.push 5) = false := by decide
theorem test_wf_refuses_empty_tail : AsmOp.wf (.pusht []) = false := by decide
theorem test_wf_refuses_tail_of_four : AsmOp.wf (.pusht [1#8, 2#8, 3#8, 4#8]) = false := by decide
theorem test_wf_refuses_rdigest_seven : AsmOp.wf (.rdigest 7) = false := by decide
theorem test_assemble_refuses_ill_formed : assemble 0 [.nop, .push 5] = none := by decide

/-! ## Decoding: words written out from R101 (95_test_vectors.md section 3) -/

theorem test_decode_nop : decode 0b00000000000000000000000000000000#32 = .command .nop := by decide
theorem test_decode_init_sha512 : decode 0b00000000000000000000000000100001#32 = .command (.init 0b10#2) := by decide
theorem test_decode_push_three : decode 0b00000000000000000000001000000010#32 = .command (.push 0b10#2) := by decide
theorem test_decode_finish : decode 0b00000000000000000000000000000011#32 = .command .finish := by decide
theorem test_decode_reserved_op : decode 0x0000000F#32 = .illegal .reservedOp := by decide
theorem test_decode_reserved_bit : decode 0x80000001#32 = .illegal .reservedBit := by decide
theorem test_decode_stray_alg : decode 0x00000032#32 = .illegal .strayAlg := by decide
theorem test_decode_stray_nb : decode 0x00000301#32 = .illegal .strayNb := by decide
theorem test_decode_table_word : decodeTableWord 32 0x00000202 = some (.push 2#2) := by decide

/-! ## Datapath (95_test_vectors.md sections 2.1, 2.2, 2.4, 2.7) -/

theorem test_add_wraps : addW (List.replicate 5 0xFFFFFFFF#32) = 0xFFFFFFFB#32 := by decide
theorem test_rotl : rotl 0x12345678#32 30 = 0x048D159E#32 := by decide
theorem test_rotr : rotr 0x0123456789ABCDEF#64 61 = 0x091A2B3C4D5E6F78#64 := by decide
theorem test_shr_is_logical : shr 0x80000000#32 31 = 0x00000001#32 := by decide
theorem test_bitwise :
    xor3 0xF0F0F0F0#32 0xCCCCCCCC#32 0xAAAAAAAA#32 = 0x96969696#32
      ∧ maj 0xF0F0F0F0#32 0xCCCCCCCC#32 0xAAAAAAAA#32 = 0xE8E8E8E8#32
      ∧ ch 0xF0F0F0F0#32 0xCCCCCCCC#32 0xAAAAAAAA#32 = 0xCACACACA#32 := by decide
theorem test_mixing32 :
    sigma0_32 0x12345678#32 = 0xE7FCE6EE#32 ∧ sigma1_32 0x12345678#32 = 0xA1F78649#32
      ∧ bigSigma0_32 0x12345678#32 = 0x66146474#32 ∧ bigSigma1_32 0x12345678#32 = 0x3561ABDA#32 := by decide
theorem test_mixing64 :
    sigma0_64 0x0123456789ABCDEF#64 = 0x6F92C77C6C4F1AA1#64 ∧ sigma1_64 0x0123456789ABCDEF#64 = 0x70A3460DBBD4317A#64
      ∧ bigSigma0_64 0x0123456789ABCDEF#64 = 0xB7C57A100C7EC1AB#64
      ∧ bigSigma1_64 0x0123456789ABCDEF#64 = 0x7703112333475567#64 := by decide
/-- Section 2.6: round 59 of SHA-1("abc") is in the majority phase. -/
theorem test_sha1_round_59 :
    sha1New 59 (kSha1 59) 0x44584cb7#32 0x09d785fd#32 0xd262ff50#32 0xf211824f#32 0xd79915ab#32 0x5edc7ddb#32
      = 0x3f52de5a#32 := by decide
/-- 44_compressor.md R243: round 0 of SHA-256("abc"). -/
theorem test_sha256_round_0 :
    roundWords .sha256 0 0x61626380#64 (initialWord .sha256)
      = [0x5d6aebcd#64, 0x6a09e667#64, 0xbb67ae85#64, 0x3c6ef372#64, 0xfa2a4622#64, 0x510e527f#64, 0x9b05688c#64,
        0x1f83d9ab#64] := by decide
/-- 44_compressor.md R244: round 0 of SHA-512("abc"). -/
theorem test_sha512_round_0 :
    (roundWords .sha512 0 0x6162638000000000#64 (initialWord .sha512)).take 5
      = [0xf6afceb8bcfcddf5#64, 0x6a09e667f3bcc908#64, 0xbb67ae8584caa73b#64, 0x3c6ef372fe94f82b#64,
        0x58cb02347ab51f91#64] := by decide
/-- 43_schedule_expander.md R222: S[19] of SHA-256("abc"), from S[17], S[12], S[4] and S[3]. -/
theorem test_sha256_expand :
    expandWord .sha256 (fun i => if i = 17 then 0x000F0000#64 else 0#64) 19 = 0x600003C6#64 := by decide
/-- Section 2.3: the padding of "abc" and of 56 bytes. -/
theorem test_pad_zeros : padZeros .sha256 3 = 52 ∧ padZeros .sha1 56 = 63 ∧ padZeros .sha512 112 = 127 := by decide

/-! ## Whole digests of "abc" (95_test_vectors.md V2, V3, V4), evaluated by the kernel -/

theorem test_digest_sha1_abc :
    digest .sha1 [0x61#8, 0x62#8, 0x63#8]
      = [0xa9993e36#64, 0x4706816a#64, 0xba3e2571#64, 0x7850c26c#64, 0x9cd0d89d#64] := by decide +kernel
theorem test_digest_sha256_abc :
    digest .sha256 [0x61#8, 0x62#8, 0x63#8]
      = [0xba7816bf#64, 0x8f01cfea#64, 0x414140de#64, 0x5dae2223#64, 0xb00361a3#64, 0x96177a9c#64, 0xb410ff61#64,
        0xf20015ad#64] := by decide +kernel
theorem test_digest_sha512_abc :
    digest .sha512 [0x61#8, 0x62#8, 0x63#8]
      = [0xddaf35a193617aba#64, 0xcc417349ae204131#64, 0x12e6fa4e89a97ea2#64, 0x0a9eeee64b55d39a#64,
        0x2192992a274fc1a8#64, 0x36ba3c23a3feebbd#64, 0x454d4423643ce80e#64, 0x2a9ac94fa54ca49f#64] := by decide +kernel

/-! ## Commands (95_test_vectors.md section 4), at most two each -/

/-- Row 4. -/
theorem test_nop_at_reset : leadsTo (exec .nop State.reset) (fun t => statusWord t == 0x00000000#32) = true := by decide
/-- Row 6. -/
theorem test_init_sha512 :
    leadsTo (exec (.init 2#2) State.reset)
      (fun t => statusWord t == 0x00000021#32 && readAt t.h 7 0#64 == 0x5be0cd19137e2179#64) = true := by decide
/-- Row 5. -/
theorem test_init_illegal_alg :
    leadsTo (exec (.init 3#2) State.reset) (fun t => statusWord t == 0x00000205#32 && t.alg == .sha1) = true := by decide
/-- Row 22. -/
theorem test_push_two :
    leadsTo (exec (.push 1#2) { accept256 with data := 0xAABBCCDD#32 })
      (fun t => statusWord t == 0x00020011#32 && readAt t.buf 0 0#8 == 0xAA#8 && readAt t.buf 1 0#8 == 0xBB#8
        && t.mlen == 16#128) = true := by decide
/-- Row 8. -/
theorem test_push_overrun :
    leadsTo (exec (.push 2#2) { accept256 with alg := .sha1, fill := 62#8, mlen := 496#128 })
      (fun t => statusWord t == 0x00000605#32 && t.fill == 62#8 && t.mlen == 496#128) = true := by decide
/-- Program P1. -/
theorem test_finish : leadsTo (exec .finish abcPushed) (fun t => statusWord t == 0x00000013#32) = true := by decide
/-- Row 3. -/
theorem test_finish_not_init :
    leadsTo (exec .finish State.reset) (fun t => statusWord t == 0x00000305#32) = true := by decide
/-- Rows 7 and 14: an illegal word, and one in ERROR. -/
theorem test_illegal_word :
    leadsTo (writeCmd 0x00000103#32 accept256) (fun t => statusWord t == 0x00000115#32) = true
      ∧ leadsTo (writeCmd 0x00000004#32 (raiseError .overrun State.reset))
          (fun t => statusWord t == 0x00000605#32) = true := by decide

/-! ## Engine steps (46_sequencer.md, the examples of R322 to R328) -/

theorem test_load :
    leadsTo (engineStep abcPadded)
      (fun t => readAt t.sch 0 0#64 == 0x61626380#64 && readAt t.sch 15 0#64 == 0x18#64 && t.t == 16#7
        && readAt t.v 7 0#64 == 0x5be0cd19#64) = true := by decide
theorem test_mark :
    leadsTo (engineStep { abcPushed with mode := .busyFinal, pstage := .mark })
      (fun t => readAt t.buf 3 0#8 == 0x80#8 && t.fill == 4#8 && t.pstage == .len) = true := by decide
theorem test_mark_spills :
    leadsTo (engineStep { abcPushed with mode := .busyFinal, pstage := .mark, fill := 56#8 })
      (fun t => t.fill == 57#8 && t.pstage == .zfull) = true := by decide
theorem test_zfull :
    leadsTo (engineStep { State.reset with mode := .busyFinal, pstage := .zfull, fill := 57#8,
                                           buf := Vector.replicate 128 0xFF#8 })
      (fun t => readAt t.buf 56 0#8 == 0xFF#8 && readAt t.buf 57 1#8 == 0#8 && readAt t.buf 64 0#8 == 0xFF#8
        && t.fill == 64#8 && t.cph == .load && t.pstage == .second) = true := by decide
theorem test_len :
    leadsTo (engineStep { abcPushed with mode := .busyFinal, pstage := .len, fill := 4#8,
                                         buf := Vector.replicate 128 0xFF#8 })
      (fun t => readAt t.buf 3 0#8 == 0xFF#8 && readAt t.buf 4 1#8 == 0#8 && readAt t.buf 62 1#8 == 0#8
        && readAt t.buf 63 0#8 == 0x18#8 && t.pstage == .last) = true := by decide
theorem test_fold_last :
    leadsTo (engineStep { abcPadded with cph := .fold, t := 64#7, v := writeAt abcPadded.v 0 0x506e3058#64 })
      (fun t => readAt t.h 0 0#64 == 0xba7816bf#64 && t.mode == .done && t.pstage == .none && t.fill == 0#8)
      = true := by decide

end Sys2Proof.Tests
end

