-- ==== Sys2Proof/Tests/Witness.lean ====
section
/-!
SUPPORT. For every statement with hypotheses, a concrete state and operands that meet them together; where a statement has
several clauses, one for each at a boundary of its range.
-/

namespace Sys2Proof.Tests

open Sys2Proof Sys2Proof.Machine

/-- `s` with the host about to issue one operation. -/
def hosting (op : HostOp) (s : State) : State := { s with host := [op], turns := [.host] }

/-- `s` with the engine's turn. -/
def stepping (s : State) : State := { s with turns := [.engine] }

/-- A state in ERROR, after an OVERRUN. -/
def inError : State := raiseError .overrun accept256

/-- DONE under SHA-256. -/
def done256 : State := { accept256 with mode := .done }

/-- BUSY_BLOCK under SHA-256. -/
def busyBlock256 : State := { accept256 with mode := .busyBlock, cph := .load, fill := 64#8 }

/-- ACCEPT under SHA-256 with a window at 0x80. -/
def at80 : State := { accept256 with engineBase := 0x80 }

/-! ## The invariant has members of every kind -/

theorem inv_accept : Inv abcPushed where
  base_aligned := by decide
  fill_le := by decide
  errcode_iff := by decide
  uninit_fresh := by decide
  idle_unless_busy := by decide
  busyBlock_stage := by decide
  busyFinal_idle := by decide
  busyFinal_block := by decide
  full_block := by decide
  accept_room := by decide
  mark_room := by decide
  len_room := by decide
  phase_index := by show _ = _; decide
  h_words := by decide
  mlen_lt := by decide
  v_words := by decide
  s_words := by decide

theorem inv_busy : Inv abcPadded where
  base_aligned := by decide
  fill_le := by decide
  errcode_iff := by decide
  uninit_fresh := by decide
  idle_unless_busy := by decide
  busyBlock_stage := by decide
  busyFinal_idle := by decide
  busyFinal_block := by decide
  full_block := by decide
  accept_room := by decide
  mark_room := by decide
  len_room := by decide
  phase_index := by show _ = _; decide
  h_words := by decide
  mlen_lt := by decide
  v_words := by decide
  s_words := by decide

/-- The bus side of a state may change without leaving the invariant, as long as ENGINE_BASE stays a multiple of 128. -/
theorem inv_of_bus (s : State) (h : Inv s) (base : Nat) (hb : base % 128 = 0) (host : List HostOp) (turns : List Agent) :
    Inv { s with engineBase := base, host := host, turns := turns } :=
  ⟨hb, h.fill_le, h.errcode_iff, h.uninit_fresh, h.idle_unless_busy, h.busyBlock_stage, h.busyFinal_idle,
    h.busyFinal_block, h.full_block, h.accept_room, h.mark_room, h.len_room, h.phase_index, h.h_words, h.mlen_lt,
    h.v_words, h.s_words⟩

/-! ## Commands and errors -/

theorem witness_IllegalWordsRaiseIllegalCmd :
    decode 0x00000004#32 = .illegal .reservedOp ∧ decode 0x0000000F#32 = .illegal .reservedOp
      ∧ decode 0x00000041#32 = .illegal .reservedBit ∧ decode 0x00000402#32 = .illegal .reservedBit
      ∧ decode 0x80000001#32 = .illegal .reservedBit ∧ decode 0x00000010#32 = .illegal .strayAlg
      ∧ decode 0x00000103#32 = .illegal .strayNb ∧ accept256.mode ≠ .error ∧ inError.mode = .error := by decide

theorem witness_StepRunsTheDecodedCommand :
    at80.engineBase % 128 = 0 ∧ HostMoves (hosting (.write 0x80 4 0x00000202#32) at80)
      ∧ (hosting (.write 0x80 4 0x00000202#32) at80).host = .write at80.engineBase 4 0x00000202#32 :: []
      ∧ decode 0x00000202#32 = .command (.push 2#2) ∧ decode 0x00000004#32 = .illegal .reservedOp :=
  ⟨by decide, .inl rfl, rfl, by decide, by decide⟩

/-- The host also moves when no turn is listed and the engine is not busy. -/
theorem witness_HostMoves_without_turns : HostMoves accept256 := .inr ⟨rfl, rfl⟩

theorem witness_InitStartsAComputation :
    (0#2).toNat = 0 ∧ (1#2).toNat = 1 ∧ (2#2).toNat = 2 ∧ (3#2).toNat = 3 := by decide

/-- PUSH 2 at FILL 62 fills the block, at FILL 61 it does not, at FILL 63 it overruns; then the other states. -/
theorem witness_PushAppendsOrRaises :
    (let s : State := { accept256 with fill := 62#8 };
      s.mode = .accept ∧ s.fill.toNat + ((1#2).toNat + 1) = blockBytes s.alg)
      ∧ (let s : State := { accept256 with fill := 61#8 };
          s.mode = .accept ∧ s.fill.toNat + ((1#2).toNat + 1) < blockBytes s.alg)
      ∧ (let s : State := { accept256 with fill := 63#8 };
          s.mode = .accept ∧ blockBytes s.alg < s.fill.toNat + ((1#2).toNat + 1))
      ∧ State.reset.mode = .uninit ∧ busyBlock256.mode = .busyBlock
      ∧ abcPadded.mode = .busyFinal ∧ done256.mode = .done ∧ inError.mode = .error := by decide

theorem witness_FinishStartsPaddingOrRaises :
    abcPushed.mode = .accept ∧ State.reset.mode = .uninit ∧ busyBlock256.mode = .busyBlock
      ∧ abcPadded.mode = .busyFinal ∧ done256.mode = .done ∧ inError.mode = .error ∧ accept256.mode ≠ .error
      ∧ decode 0x00000003#32 = .command .finish ∧ decode 0x00000004#32 = .illegal .reservedOp
      ∧ decode 0x00000031#32 = .command (.init 3#2) := by decide

theorem witness_ErrorEntryWritesFiveRegisters :
    (∃ t, writeCmd 0x00000003#32 done256 = .next t ∧ t.mode = .error ∧ done256.mode ≠ .error)
      ∧ ∃ t, writeCmd 0x00000031#32 inError = .next t ∧ t.mode = .error ∧ inError.mode = .error :=
  ⟨⟨_, rfl, by decide⟩, ⟨_, rfl, by decide⟩⟩

theorem witness_ErrorStateIgnoresAllButInit :
    inError.mode = .error
      ∧ 0x00000002#32 ∉ [0x00000001#32, 0x00000011#32, 0x00000021#32, 0x00000031#32] := by decide

/-- ERROR left by INIT SHA-512, and by a reset. -/
theorem witness_ErrorIsLeftByInitOrReset :
    (∃ t, step (hosting (.write 0 4 0x00000021#32) inError) = .next t ∧ t.mode ≠ .error)
      ∧ ∃ t, step { inError with turns := [.platform] } = .next t ∧ t.mode ≠ .error :=
  ⟨⟨_, rfl, by decide⟩, ⟨_, rfl, by simp⟩⟩

/-- Every entry of the priority order is met. -/
theorem witness_CmdWritesRaiseErrorsByPriority :
    errorByPriority 0x00000004#32 inError = none ∧ errorByPriority 0x00000004#32 done256 = some .illegalCmd
      ∧ errorByPriority 0x00000031#32 inError = some .illegalAlg
      ∧ errorByPriority 0x00000003#32 State.reset = some .notInit
      ∧ errorByPriority 0x00000002#32 abcPadded = some .busy
      ∧ errorByPriority 0x00000302#32 done256 = some .afterDone
      ∧ errorByPriority 0x00000302#32 { accept256 with fill := 61#8 } = some .overrun
      ∧ errorByPriority 0x00000302#32 { accept256 with fill := 60#8 } = none
      ∧ errorByPriority 0x00000000#32 abcPadded = none := by decide

theorem witness_OnlyCmdWritesRaiseErrors :
    ∃ t, step (hosting (.write 0 4 0x00000003#32) State.reset) = .next t
      ∧ (hosting (.write 0 4 0x00000003#32) State.reset).mode ≠ .error ∧ t.mode = .error :=
  ⟨_, rfl, by decide⟩

/-! ## Register accesses -/

/-- Offsets at both ends of every range of the window, read through a window at 0x80. -/
theorem witness_RegisterReadsReturnValues :
    ∀ off ∈ [0x00, 0x04, 0x08, 0x0C, 0x3C, 0x40, 0x7C],
      at80.engineBase % 128 = 0 ∧ off % 4 = 0 ∧ off < 128
        ∧ (hosting (.read (0x80 + off) 4) at80).turns.head? = some .host
        ∧ (hosting (.read (0x80 + off) 4) at80).host = .read (at80.engineBase + off) 4 :: [] := by decide

theorem witness_WritesElsewhereAreIgnored :
    ∀ off ∈ [0x08, 0x0C, 0x3C, 0x40, 0x7C],
      at80.engineBase % 128 = 0 ∧ off % 4 = 0 ∧ 0x08 ≤ off ∧ off < 128
        ∧ (hosting (.write (0x80 + off) 4 1#32) at80).turns.head? = some .host
        ∧ (hosting (.write (0x80 + off) 4 1#32) at80).host = .write (at80.engineBase + off) 4 1#32 :: [] := by decide

theorem witness_DataWriteWritesOnlyData :
    at80.engineBase % 128 = 0 ∧ (hosting (.write 0x84 4 0x61626300#32) at80).turns.head? = some .host
      ∧ (hosting (.write 0x84 4 0x61626300#32) at80).host
        = .write (at80.engineBase + 0x04) 4 0x61626300#32 :: [] := by decide

/-- DONE under each algorithm, and the highest register. -/
theorem witness_DigestRegistersShowTheHash :
    15 < 16 ∧ accept256.mode ≠ .done ∧ ({ done256 with alg := .sha1 } : State).mode = .done ∧ done256.mode = .done
      ∧ done256.alg = .sha256 ∧ ({ done256 with alg := .sha512 } : State).mode = .done := by decide

/-- Through a window at 0x80: a byte access at its first byte, a misaligned word that runs out of it, a doubleword at its
last word, an aligned word that starts below it and one misaligned there that runs into it. -/
theorem witness_AccessesOutsideTheProtocolAreRefused :
    ∀ p ∈ [(0x80, 1), (0xFE, 4), (0xFC, 8), (0x7C, 8), (0x7E, 4)],
      at80.engineBase % 128 = 0 ∧ at80.engineBase < p.1 + p.2 ∧ p.1 < at80.engineBase + 128 ∧ (p.2 ≠ 4 ∨ p.1 % 4 ≠ 0)
        ∧ (hosting (.read p.1 p.2) at80).host = .read p.1 p.2 :: []
        ∧ (hosting (.read p.1 p.2) at80).turns.head? = some .host := by decide

/-- The word before the window and the word after it. -/
theorem witness_AccessesElsewhereLeaveTheEngineAlone :
    (0x7C + 4 ≤ at80.engineBase ∧ (hosting (.read 0x7C 4) at80).host = .read 0x7C 4 :: [])
      ∧ (at80.engineBase + 128 ≤ 0x100 ∧ (hosting (.write 0x100 4 1#32) at80).host = .write 0x100 4 1#32 :: [])
      ∧ (hosting (.read 0x7C 4) at80).turns.head? = some .host := by decide

/-- WAIT while busy and while not. -/
theorem witness_WaitPollsStatus :
    (hosting .wait abcPadded).host = .wait :: [] ∧ (hosting .wait abcPadded).turns.head? = some .host
      ∧ (hosting .wait abcPadded).busy = true ∧ (hosting .wait accept256).busy = false := by decide

theorem witness_AssemblerExpansions : (1 ≤ 1 ∧ 1 ≤ 4) ∧ (1 ≤ 4 ∧ 4 ≤ 4) ∧ 15 < 16 := by decide

/-! ## Reset and engine steps -/

theorem witness_PlatformResetPutsTheTableValues :
    ({ abcPadded with turns := [.platform] } : State).turns = .platform :: []
      ∧ ∃ t, writeCmd 0x00000000#32 State.reset = .next t ∧ t.mode = .uninit :=
  ⟨rfl, _, rfl, by decide⟩

/-- LOAD with W = 32 and with W = 64. -/
theorem witness_LoadSegmentsTheBuffer :
    (abcPadded.busy = true ∧ abcPadded.cph = .load ∧ abcPadded.alg ≠ .sha512)
      ∧ ({ abcPadded with alg := .sha512 } : State).busy = true ∧ ({ abcPadded with alg := .sha512 } : State).alg = .sha512 := by decide

/-- EXPAND at its first and its last word. -/
theorem witness_ExpandWritesOneScheduleWord :
    ∀ t ∈ [16#7, 63#7], let s : State := { abcPadded with cph := .expand, t := t };
      s.busy = true ∧ s.cph = .expand ∧ 16 ≤ s.t.toNat ∧ s.t.toNat < rounds s.alg := by decide

/-- ROUND at its first and its last round. -/
theorem witness_RoundWritesTheWorkingState :
    ∀ t ∈ [0#7, 63#7], let s : State := { abcPadded with cph := .round, t := t };
      s.busy = true ∧ s.cph = .round ∧ s.t.toNat < rounds s.alg := by decide

/-- FOLD in BUSY_BLOCK, and in BUSY_FINAL with each stage. -/
theorem witness_FoldAddsTheWorkingState :
    (let s : State := { abcPadded with cph := .fold, mode := .busyBlock, pstage := .none };
      s.busy = true ∧ s.cph = .fold ∧ s.mode = .busyBlock)
      ∧ (∀ p ∈ [PadStage.second, PadStage.last], let s : State := { abcPadded with cph := .fold, pstage := p };
          s.busy = true ∧ s.cph = .fold ∧ s.mode = .busyFinal ∧ s.pstage = p) := by decide

/-- MARK at FILL 0 and at the last byte of the block. -/
theorem witness_MarkAppendsTheSetBit :
    ∀ f ∈ [0#8, 55#8, 56#8, 63#8], let s : State := { abcPadded with cph := .idle, pstage := .mark, fill := f };
      s.mode = .busyFinal ∧ s.cph = .idle ∧ s.pstage = .mark ∧ s.fill.toNat < blockBytes s.alg := by decide

theorem witness_ZfullCompletesTheBlock :
    ∀ f ∈ [57#8, 64#8], let s : State := { abcPadded with cph := .idle, pstage := .zfull, fill := f };
      s.mode = .busyFinal ∧ s.cph = .idle ∧ s.pstage = .zfull := by decide

theorem witness_LenWritesTheLengthField :
    ∀ f ∈ [0#8, 56#8], let s : State := { abcPadded with cph := .idle, pstage := .len, fill := f };
      s.mode = .busyFinal ∧ s.cph = .idle ∧ s.pstage = .len
        ∧ s.fill.toNat ≤ blockBytes s.alg - lenBytes s.alg := by decide

theorem witness_EngineStepsExactlyWhenBusy :
    accept256.busy = false ∧ Inv abcPadded ∧ abcPadded.busy = true ∧ ∃ t, engineStep abcPadded = .next t :=
  ⟨by decide, inv_busy, by decide, _, rfl⟩

/-! ## Datapath and whole-message functions -/

theorem witness_AddIsTheModularSum : [1#32, 2#32, 3#32].Perm [3#32, 1#32, 2#32] := by decide

theorem witness_RotationsMoveBitsRoundTheRing : 0 < 1 ∧ 1 < 32 ∧ 31 < 32 ∧ 0 < 63 ∧ 63 < 64 := by decide

theorem witness_BitwiseFunctionsPerBit : 0 < 32 ∧ 31 < 32 ∧ 63 < 64 := by decide

theorem witness_ConstantTablesAreRootsOfPrimes : 63 < 64 ∧ 79 < 80 ∧ 7 < 8 := by decide

theorem witness_ExpansionFormulas : 16 ≤ 16 ∧ 16 ≤ 79 := by decide

theorem witness_Sha1RoundFormula : ∀ t ∈ [0, 19, 20, 39, 40, 59, 60, 79], t < 80 := by decide

theorem witness_Sha2RoundFormulas : 63 < 64 ∧ 79 < 80 := by decide

theorem witness_PaddedStreamIsLeast :
    3 < 4 ∧ 4 < (pad .sha256 [0x61#8, 0x62#8, 0x63#8]).length - lenBytes .sha256 := by decide

theorem witness_SegmentsAreWholeBlocks : 0 < (segment .sha256 (pad .sha256 [0x61#8])).length := by decide

theorem witness_ScheduleRecurrence :
    (List.replicate 16 1#64).length = 16 ∧ 15 < 16 ∧ 16 ≤ 16 ∧ 63 < rounds .sha256 ∧ 79 < rounds .sha1 := by decide

/-! ## Computations -/

theorem witness_BlockStepsComputeCompress :
    abcPadded.busy = true ∧ abcPadded.cph = .load ∧ abcPadded.mode = .busyFinal ∧ abcPadded.pstage = .last
      ∧ 0 < 2 * rounds abcPadded.alg - 14 := by decide

/-- The host writes INIT SHA-1, DATA and PUSH 1, and then FINISH. -/
def pushesOneByte : State :=
  { State.reset with host := [.write 0 4 0x00000001#32, .write 4 4 0x61000000#32, .write 0 4 0x00000002#32,
                              .write 0 4 0x00000003#32] }

theorem quiet_of_dataWrite (s : State) (value : BitVec 32) (h : nextEvent s = .dataWrite value) : Quiet s := by
  simp [Quiet, h]

theorem witness_ComputationYieldsTheDigest : ∃ s, Computes .sha1 [0x61#8] [] true s ∧ s.busy = true := by
  have h1 : Computes .sha1 [] [] false _ :=
    .start (s := pushesOneByte) (t := startComputation .sha1 (issued pushesOneByte)) rfl rfl
  have h2 := h1.quiet (quiet_of_dataWrite _ 0x61000000#32 rfl)
    (t := writeData 0x61000000#32 (issued (startComputation .sha1 (issued pushesOneByte)))) rfl
  have h3 := Computes.push (nb := 0#2) h2 rfl rfl (by decide) rfl
  have h4 := Computes.finish h3 rfl rfl rfl
  exact ⟨_, h4, rfl⟩

theorem witness_FinishTakesTheCountedSteps :
    Inv abcPushed ∧ abcPushed.mode = .accept ∧ (∃ t, exec .finish abcPushed = .next t)
      ∧ 0 < finishSteps abcPushed.alg abcPushed.fill.toNat :=
  ⟨inv_accept, rfl, ⟨_, rfl⟩, by decide⟩

theorem witness_BusyPeriodsEnd : Inv abcPadded ∧ abcPadded.busy = true ∧ abcPadded.turns = [] :=
  ⟨inv_busy, by decide, rfl⟩

/-- ACCEPT with the host program of a one-byte message pending. -/
def programmed : State :=
  { abcPushed with engineBase := 0x80, host := ((assemble 0x80 (hostProgram .sha256 [0x61#8])).getD []), turns := [] }

theorem witness_HostProgramReadsTheDigest :
    Inv programmed ∧ programmed.turns = []
      ∧ assemble programmed.engineBase (hostProgram .sha256 [0x61#8]) = some programmed.host :=
  ⟨inv_of_bus abcPushed inv_accept 0x80 (by decide) _ [], rfl, by decide⟩

/-- A fresh engine and one in the middle of another computation. -/
theorem witness_InitForgetsEarlierComputations :
    State.reset.data = ({ abcPadded with data := 0#32 } : State).data ∧ SameBus State.reset { abcPadded with data := 0#32 }
      ∧ (∃ t, exec (.init Alg.sha1.field) State.reset = .next t)
      ∧ ∃ t, exec (.init Alg.sha1.field) { abcPadded with data := 0#32 } = .next t :=
  ⟨rfl, ⟨rfl, rfl, rfl, rfl, rfl⟩, ⟨_, rfl⟩, ⟨_, rfl⟩⟩

/-! ## Whole-machine rules -/

theorem witness_StepsKeepTheInvariant : Inv abcPadded ∧ ∃ t, step abcPadded = .next t := ⟨inv_busy, _, rfl⟩

/-- A state that meets the invariant and is about to make an access outside the protocol. -/
theorem witness_InvariantRulesOutStuckStates :
    Inv { abcPushed with engineBase := 0, host := [.read 2 4], turns := [.host] }
      ∧ nextEvent { abcPushed with engineBase := 0, host := [.read 2 4], turns := [.host] } = .violation
      ∧ nextEvent abcPushed ≠ .violation :=
  ⟨inv_of_bus abcPushed inv_accept 0 (by decide) _ _, by decide, by decide⟩

theorem witness_OnlyTheHostWritesData :
    (∃ t, step (hosting (.write 4 4 1#32) accept256) = .next t ∧ t.data ≠ accept256.data)
      ∧ ∃ t, step { abcPushed with turns := [.platform] } = .next t ∧ t.data ≠ abcPushed.data :=
  ⟨⟨_, rfl, by decide⟩, ⟨_, rfl, by simp [abcPushed]⟩⟩

theorem witness_OnlyInitAndResetWriteAlg :
    (∃ t, step (hosting (.write 0 4 0x00000021#32) accept256) = .next t ∧ t.alg ≠ accept256.alg)
      ∧ ∃ t, step { accept256 with turns := [.platform] } = .next t ∧ t.alg ≠ accept256.alg :=
  ⟨⟨_, rfl, by decide⟩, ⟨_, rfl, by simp [accept256]⟩⟩

/-- H changed by INIT and by FOLD. -/
theorem witness_OnlyInitFoldAndResetWriteHash :
    (∃ t, step (hosting (.write 0 4 0x00000021#32) accept256) = .next t
      ∧ readAt t.h 0 0#64 ≠ readAt accept256.h 0 0#64)
      ∧ ∃ t, step (stepping { abcPadded with cph := .fold, v := writeAt abcPadded.v 0 1#64 }) = .next t
        ∧ readAt t.h 0 0#64 ≠ readAt abcPadded.h 0 0#64 :=
  ⟨⟨_, rfl, by decide⟩, ⟨_, rfl, by decide⟩⟩

/-- V and S changed by LOAD, BUF and MLEN by PUSH. -/
theorem witness_BlockStorageWriters :
    (∃ t, step (stepping abcPadded) = .next t ∧ nextEvent (stepping abcPadded) ≠ .reset
      ∧ readAt t.v 0 0#64 ≠ readAt abcPadded.v 0 0#64 ∧ readAt t.sch 0 0#64 ≠ readAt abcPadded.sch 0 0#64)
      ∧ ∃ t, step (hosting (.write 0 4 0x00000002#32) abcPushed) = .next t
        ∧ nextEvent (hosting (.write 0 4 0x00000002#32) abcPushed) ≠ .reset
        ∧ readAt t.buf 3 0#8 ≠ readAt abcPushed.buf 3 0#8 ∧ t.mlen ≠ abcPushed.mlen :=
  ⟨⟨_, rfl, by decide⟩, ⟨_, rfl, by decide⟩⟩

theorem witness_DigestIsStableWhileDone :
    done256.mode = .done ∧ (∃ t, step (hosting (.read 0x40 4) done256) = .next t)
      ∧ nextEvent (hosting (.read 0x40 4) done256) = .read 0x40 :=
  ⟨rfl, ⟨_, rfl⟩, by decide⟩

end Sys2Proof.Tests
end

section
/-!
PROOFS. What the host sees of the state (10_state.md R49, R50): STATUS as a sum of disjoint fields, and the DIGEST
registers case by case.
-/

namespace Sys2Proof.Machine

/-! ## STATUS -/

/-- A field of w bits put in at bit k, above everything set so far, adds its value times 2^k. -/
theorem toNat_or_setWidth_shiftLeft {n w k : Nat} {x : BitVec n} (y : BitVec w) (hx : x.toNat < 2 ^ k)
    (hk : k + w ≤ n) :
    (x ||| y.setWidth n <<< k).toNat = x.toNat + 2 ^ k * y.toNat := by
  have hy : y.toNat * 2 ^ k < 2 ^ n := calc
    y.toNat * 2 ^ k < 2 ^ w * 2 ^ k := Nat.mul_lt_mul_of_pos_right y.isLt (Nat.two_pow_pos k)
    _ = 2 ^ (k + w) := by rw [Nat.add_comm, Nat.pow_add]
    _ ≤ 2 ^ n := Nat.pow_le_pow_right (by decide) hk
  have hfield : (y.setWidth n <<< k).toNat = 2 ^ k * y.toNat := by
    rw [BitVec.toNat_shiftLeft, BitVec.toNat_setWidth_of_le (by omega), Nat.shiftLeft_eq, Nat.mod_eq_of_lt hy,
      Nat.mul_comm]
  rw [BitVec.toNat_or, hfield, Nat.or_comm, ← Nat.two_pow_add_eq_or_of_lt hx, Nat.add_comm]

theorem statusFill_toNat (s : State) : (statusFill s).toNat = if s.mode = .accept then s.fill.toNat else 0 :=
  apply_ite BitVec.toNat _ _ _

/-- The fields of STATUS lie at bits 0, 4, 8 and 16, each below the next. -/
theorem statusWord_toNat (s : State) :
    (statusWord s).toNat = (modeCode s.mode).toNat + 2 ^ 4 * (algCode s.alg).toNat + 2 ^ 8 * (errCode s.errcode).toNat
      + 2 ^ 16 * (statusFill s).toNat := by
  have hmode : ((modeCode s.mode).setWidth 32).toNat = (modeCode s.mode).toNat :=
    BitVec.toNat_setWidth_of_le (by decide)
  have hmodeLt := (modeCode s.mode).isLt
  have halgLt := (algCode s.alg).isLt
  have herrLt := (errCode s.errcode).isLt
  have halg := toNat_or_setWidth_shiftLeft (x := (modeCode s.mode).setWidth 32) (k := 4) (algCode s.alg)
    (by omega) (by decide)
  have herr := toNat_or_setWidth_shiftLeft (k := 8) (errCode s.errcode) (lt_of_eq_of_lt halg (by omega)) (by decide)
  have hfill := toNat_or_setWidth_shiftLeft (k := 16) (statusFill s) (lt_of_eq_of_lt herr (by omega)) (by decide)
  rw [statusWord, hfill, herr, halg, hmode]

/-- Settles O18: STATUS is the sum of its fields, and each field's code is its table's number. -/
theorem statusShowsItsFields : Obligations.StatusShowsItsFields := by
  intro s
  rw [statusWord_toNat, statusFill_toNat]
  refine congrArg₂ (· + ·) (congrArg₂ (· + ·) (congrArg₂ (· + ·) ?mode ?alg) ?errcode) rfl
  case mode => cases s.mode <;> rfl
  case alg => cases s.alg <;> rfl
  case errcode => cases s.errcode <;> rfl

/-! ## DIGEST -/

theorem low32_eq_extractLsb' (x : BitVec 64) : low32 x = x.extractLsb' 0 32 :=
  BitVec.setWidth_eq_extractLsb' (by decide)

theorem low32_ushiftRight_eq_extractLsb' (x : BitVec 64) : low32 (x >>> 32) = x.extractLsb' 32 32 :=
  BitVec.setWidth_ushiftRight_eq_extractLsb

theorem digestWord_of_ne_done {s : State} (h : s.mode ≠ .done) (i : Nat) : digestWord s i = 0#32 := if_pos h

/-- With 32-bit words DIGEST[i] is the low half of H[i], for the words the hash state has. -/
theorem digestWord_of_wordBits_eq {s : State} (hdone : s.mode = .done) (hw : wordBits s.alg = 32) (i : Nat) :
    digestWord s i = if i < stateWords s.alg then (readAt s.h i 0#64).extractLsb' 0 32 else 0#32 := by
  rw [digestWord, if_neg (not_not_intro hdone), if_pos hw, low32_eq_extractLsb']

/-- With 64-bit words each H word fills two registers, its high half first. -/
theorem digestWord_of_wordBits_ne {s : State} (hdone : s.mode = .done) (hw : wordBits s.alg ≠ 32) (i : Nat) :
    digestWord s i = if i % 2 = 0 then (readAt s.h (i / 2) 0#64).extractLsb' 32 32
      else (readAt s.h ((i - 1) / 2) 0#64).extractLsb' 0 32 := by
  rw [digestWord, if_neg (not_not_intro hdone), if_neg hw, low32_ushiftRight_eq_extractLsb', low32_eq_extractLsb']

/-- Settles O19: the cases of STATE and of the word width, with NH = 5 for SHA-1 and 8 for SHA-256. -/
theorem digestRegistersShowTheHash : Obligations.DigestRegistersShowTheHash := by
  intro s i _
  refine ⟨fun hmode => digestWord_of_ne_done hmode i, fun hdone halg => ?sha1, fun hdone halg => ?sha256,
    fun hdone halg => ?sha512⟩
  case sha1 => simpa [halg, stateWords] using digestWord_of_wordBits_eq hdone (by rw [halg]; rfl) i
  case sha256 => simpa [halg, stateWords] using digestWord_of_wordBits_eq hdone (by rw [halg]; rfl) i
  case sha512 => exact digestWord_of_wordBits_ne hdone (by rw [halg]; decide) i

end Sys2Proof.Machine
end

section
/-!
PROOFS. The command words (30_encoding.md R104 to R107): the decoder inverts the encoder, so the legal words are the ten
encodings and their field values are read off the encoder; and what writing an illegal word to CMD does.
-/

namespace Sys2Proof.Machine

/-! ## Decoding inverts encoding -/

theorem decode_encode (i : Instr) : decode (encode i) = .command i := by
  cases i with
  | nop => rfl
  | init a => revert a; decide
  | push nb => revert nb; decide
  | finish => rfl

/-- Masking the n bits at bit k leaves the field there, in its place. -/
theorem and_fieldMask {n : Nat} (x : BitVec n) (k w : Nat) :
    x &&& (BitVec.allOnes w).setWidth n <<< k = (x.extractLsb' k w).setWidth n <<< k := by
  ext i hi
  rcases Nat.lt_or_ge i k with hk | hk
  · simp [hk]
  · simp [hi, Nat.not_lt.2 hk, Nat.add_sub_cancel' hk, Bool.and_comm]

/-- A word is its bits outside a field with the field put back. -/
theorem eq_and_or_field {n : Nat} (x m : BitVec n) (k w : Nat) (hm : ~~~m = (BitVec.allOnes w).setWidth n <<< k) :
    x = x &&& m ||| (x.extractLsb' k w).setWidth n <<< k := by
  rw [← and_fieldMask, ← hm, ← BitVec.and_or_distrib_left]
  simp

theorem eq_encode_of_decode {w : BitVec 32} {i : Instr} (h : decode w = .command i) : w = encode i := by
  unfold decode at h
  split at h
  case isTrue hnop => cases h; exact hnop
  split at h
  case isTrue hinit =>
    cases h
    have hfield := eq_and_or_field w 0xFFFFFFCF#32 4 2 (by decide)
    rwa [hinit] at hfield
  split at h
  case isTrue hpush =>
    cases h
    have hfield := eq_and_or_field w 0xFFFFFCFF#32 8 2 (by decide)
    rwa [hpush] at hfield
  split at h
  case isTrue hfinish => cases h; exact hfinish
  cases h

theorem decode_eq_command_iff (w : BitVec 32) (i : Instr) : decode w = .command i ↔ w = encode i :=
  ⟨eq_encode_of_decode, fun h => h ▸ decode_encode i⟩

/-! ## The ten legal words -/

/-- Every command, in the order in which O2 lists the words. -/
def allCommands : List Instr :=
  [.nop, .init 0#2, .init 1#2, .init 2#2, .init 3#2, .push 0#2, .push 1#2, .push 2#2, .push 3#2, .finish]

theorem mem_allCommands (i : Instr) : i ∈ allCommands := by
  cases i with
  | nop => decide
  | init a => revert a; decide
  | push nb => revert nb; decide
  | finish => decide

theorem exists_command_iff_mem (w : BitVec 32) : (∃ i, decode w = .command i) ↔ w ∈ allCommands.map encode := by
  simp only [decode_eq_command_iff, List.mem_map, mem_allCommands, true_and, eq_comm]

/-- Settles O2: the ten words are the encodings of the ten commands. -/
theorem legalWordsAreExactlyTen : Obligations.LegalWordsAreExactlyTen := exists_command_iff_mem

/-! ## Illegal words -/

theorem exists_illegal_iff (w : BitVec 32) : (∃ why, decode w = .illegal why) ↔ ¬ ∃ i, decode w = .command i := by
  cases decode w <;> simp

theorem encode_init_toNat (a : BitVec 2) : (encode (.init a)).toNat = 1 + 2 ^ 4 * a.toNat :=
  toNat_or_setWidth_shiftLeft (x := 0x00000001#32) a (by decide) (by decide)

theorem encode_push_toNat (nb : BitVec 2) : (encode (.push nb)).toNat = 2 + 2 ^ 8 * nb.toNat :=
  toNat_or_setWidth_shiftLeft (x := 0x00000002#32) nb (by decide) (by decide)

/-- R106's four reasons, on the number w: a reserved OP, a reserved bit, ALG outside INIT, NB outside PUSH. -/
def HasIllegalField (w : Nat) : Prop :=
  4 ≤ w % 16 ∨ w / 64 % 4 ≠ 0 ∨ w / 1024 ≠ 0 ∨ (w / 16 % 4 ≠ 0 ∧ w % 16 ≠ 1) ∨ (w / 256 % 4 ≠ 0 ∧ w % 16 ≠ 2)

theorem not_hasIllegalField_encode (i : Instr) : ¬ HasIllegalField (encode i).toNat := by
  unfold HasIllegalField
  cases i with
  | nop => decide
  | init a => rw [encode_init_toNat]; omega
  | push nb => rw [encode_push_toNat]; omega
  | finish => decide

/-- Without an illegal field OP names the command and the command's own field is its operand. -/
theorem exists_encode_of_not_hasIllegalField {w : BitVec 32} (h : ¬ HasIllegalField w.toNat) : ∃ i, w = encode i := by
  unfold HasIllegalField at h
  have hop : w.toNat % 16 = 0 ∨ w.toNat % 16 = 1 ∨ w.toNat % 16 = 2 ∨ w.toNat % 16 = 3 := by omega
  rcases hop with hop | hop | hop | hop
  · exact ⟨.nop, BitVec.eq_of_toNat_eq (show w.toNat = 0 by omega)⟩
  · refine ⟨.init (BitVec.ofNat 2 (w.toNat / 16)), BitVec.eq_of_toNat_eq ?_⟩
    rw [encode_init_toNat, BitVec.toNat_ofNat]
    omega
  · refine ⟨.push (BitVec.ofNat 2 (w.toNat / 256)), BitVec.eq_of_toNat_eq ?_⟩
    rw [encode_push_toNat, BitVec.toNat_ofNat]
    omega
  · exact ⟨.finish, BitVec.eq_of_toNat_eq (show w.toNat = 3 by omega)⟩

theorem exists_illegal_iff_hasIllegalField (w : BitVec 32) :
    (∃ why, decode w = .illegal why) ↔ HasIllegalField w.toNat := by
  simp only [exists_illegal_iff, decode_eq_command_iff]
  refine ⟨fun hnone => by_contra fun hfield => hnone (exists_encode_of_not_hasIllegalField hfield), ?_⟩
  rintro hfield ⟨i, rfl⟩
  exact not_hasIllegalField_encode i hfield

theorem errorEntered_raiseError (c : ErrCode) (s : State) : ErrorEntered c s (raiseError c s) := by
  simp [ErrorEntered, SameBus]

theorem writeCmd_of_illegal {w : BitVec 32} {why : IllegalWord} (h : decode w = .illegal why) (s : State) :
    writeCmd w s = .next (if s.mode = .error then s else raiseError .illegalCmd s) := by
  rw [writeCmd, h]
  rfl

/-- Settles O4: an illegal word is none of the encodings, and writing one is the illegal word's case of R280. -/
theorem illegalWordsRaiseIllegalCmd : Obligations.IllegalWordsRaiseIllegalCmd := by
  intro w
  refine ⟨exists_illegal_iff_hasIllegalField w, fun why s hw => ⟨fun hmode => ?_, fun hmode => ?_⟩⟩
  · exact ⟨raiseError .illegalCmd s, by rw [writeCmd_of_illegal hw, if_neg hmode], errorEntered_raiseError _ s⟩
  · rw [writeCmd_of_illegal hw, if_pos hmode]

end Sys2Proof.Machine
end

section
/-!
PROOFS. The word arithmetic (40_word_arithmetic.md R131, R133 to R147): the modular sum is the library's sum of bit vectors,
the shift and the bitwise functions bit by bit, and the right rotation is the library's.
-/

namespace Sys2Proof.Machine

section WordLemmas
variable {w : Nat}

/-! ## The modular sum -/

theorem addW_toNat (xs : List (BitVec w)) : (addW xs).toNat = (xs.map BitVec.toNat).sum % 2 ^ w := by
  rw [addW, BitVec.toNat_ofNat, addW_foldr_toNat]

/-- The words of one width are a commutative monoid under modular addition, and addW sums in it: order and grouping are
the library's facts about sums. -/
theorem addW_eq_sum (xs : List (BitVec w)) : addW xs = xs.sum := by
  induction xs with
  | nil => exact addW_nil
  | cons x xs ih => rw [addW_cons, List.sum_cons, ih]

theorem addW_eq_of_perm {xs ys : List (BitVec w)} (h : xs.Perm ys) : addW xs = addW ys := by
  rw [addW_eq_sum, addW_eq_sum, h.sum_eq]

theorem addW_append_addW (xs ys : List (BitVec w)) : addW (xs ++ [addW ys]) = addW (xs ++ ys) := by
  simp only [addW_eq_sum, List.sum_append, List.sum_singleton]

/-! ## The shift and the bitwise functions -/

theorem shr_toNat (x : BitVec w) (n : Nat) : (shr x n).toNat = x.toNat / 2 ^ n := by
  rw [shr, BitVec.toNat_ushiftRight, Nat.shiftRight_eq_div_pow]

theorem notW_eq_not (x : BitVec w) : notW x = ~~~x := BitVec.xor_allOnes

theorem getLsbD_notW (x : BitVec w) {i : Nat} (h : i < w) : (notW x).getLsbD i = !x.getLsbD i := by
  simp [notW_eq_not, h]

theorem getLsbD_xor3 (a b c : BitVec w) (i : Nat) :
    (xor3 a b c).getLsbD i = ((a.getLsbD i ^^ b.getLsbD i) ^^ c.getLsbD i) := by
  rw [xor3, BitVec.getLsbD_xor, BitVec.getLsbD_xor]

theorem getLsbD_maj (a b c : BitVec w) (i : Nat) :
    (maj a b c).getLsbD i =
      (a.getLsbD i && b.getLsbD i || a.getLsbD i && c.getLsbD i || b.getLsbD i && c.getLsbD i) := by
  simp only [maj, BitVec.getLsbD_or, BitVec.getLsbD_and]

/-- Some two of three bits are both 1 exactly when at least two of the three are. -/
theorem majority_iff (p q r : Bool) :
    (p && q || p && r || q && r) = true ↔ 2 ≤ p.toNat + q.toNat + r.toNat := by
  revert p q r
  decide

theorem getLsbD_ch (a b c : BitVec w) {i : Nat} (h : i < w) :
    (ch a b c).getLsbD i = if a.getLsbD i then b.getLsbD i else c.getLsbD i := by
  rw [ch, BitVec.getLsbD_or, BitVec.getLsbD_and, BitVec.getLsbD_and, getLsbD_notW a h]
  cases a.getLsbD i <;> simp

/-! ## The right rotation -/

theorem rotr_eq_rotateRight (x : BitVec w) {n : Nat} (h : n < w) : rotr x n = x.rotateRight n :=
  (BitVec.rotateRight_eq_rotateRightAux_of_lt h).symm

/-- The form of sigma0 and sigma1 (R140 to R143). -/
theorem rotr_xor_rotr_xor_shr (x : BitVec w) {m n : Nat} (k : Nat) (hm : m < w) (hn : n < w) :
    rotr x m ^^^ rotr x n ^^^ shr x k = (x.rotateRight m ^^^ x.rotateRight n ^^^ x >>> k) := by
  rw [rotr_eq_rotateRight x hm, rotr_eq_rotateRight x hn, shr]

/-- The form of Sigma0 and Sigma1 (R144 to R147). -/
theorem rotr_xor_rotr_xor_rotr (x : BitVec w) {m n k : Nat} (hm : m < w) (hn : n < w) (hk : k < w) :
    rotr x m ^^^ rotr x n ^^^ rotr x k = (x.rotateRight m ^^^ x.rotateRight n ^^^ x.rotateRight k) := by
  rw [rotr_eq_rotateRight x hm, rotr_eq_rotateRight x hn, rotr_eq_rotateRight x hk]

end WordLemmas

/-! ## The obligations -/

/-- Settles O34: addW is the sum in the commutative monoid of the words of one width. -/
theorem addIsTheModularSum : Obligations.AddIsTheModularSum :=
  fun _ xs ys => ⟨addW_toNat xs, addW_eq_of_perm, addW_append_addW xs ys⟩

/-- Settles O36: each function's own bit lemma, and for the majority the truth table of three bits. -/
theorem bitwiseFunctionsPerBit : Obligations.BitwiseFunctionsPerBit := by
  intro _ a b c n i hi
  refine ⟨shr_toNat a n, getLsbD_notW a hi, getLsbD_xor3 a b c i, ?_, getLsbD_ch a b c hi⟩
  rw [getLsbD_maj, majority_iff]

/-- Settles O37: every amount is below its width, where rotr is the library's rotation. -/
theorem mixingFunctionsAreTheirRotations : Obligations.MixingFunctionsAreTheirRotations := by
  intro x y
  refine ⟨?sigma0_32, ?sigma1_32, ?sigma0_64, ?sigma1_64, ?bigSigma0_32, ?bigSigma1_32, ?bigSigma0_64, ?bigSigma1_64⟩
  case sigma0_32 => exact rotr_xor_rotr_xor_shr x 3 (by decide) (by decide)
  case sigma1_32 => exact rotr_xor_rotr_xor_shr x 10 (by decide) (by decide)
  case sigma0_64 => exact rotr_xor_rotr_xor_shr y 7 (by decide) (by decide)
  case sigma1_64 => exact rotr_xor_rotr_xor_shr y 6 (by decide) (by decide)
  case bigSigma0_32 => exact rotr_xor_rotr_xor_rotr x (by decide) (by decide) (by decide)
  case bigSigma1_32 => exact rotr_xor_rotr_xor_rotr x (by decide) (by decide) (by decide)
  case bigSigma0_64 => exact rotr_xor_rotr_xor_rotr y (by decide) (by decide) (by decide)
  case bigSigma1_64 => exact rotr_xor_rotr_xor_rotr y (by decide) (by decide) (by decide)

end Sys2Proof.Machine
end

section
/-!
PROOFS. The constant tables at INIT (41_constants.md R171 to R173; 45_host_commands.md R282): the H0 table of each
algorithm in 64-bit registers, and the computation that INIT starts from it.
-/

namespace Sys2Proof.Machine

/-! ## The initial hash state -/

/-- The H0 table of the algorithm (R171 to R173), its words in 64-bit registers. -/
def initialWords : Alg → List (BitVec 64)
  | .sha1 => h0Sha1.map zext64
  | .sha256 => h0Sha256.map zext64
  | .sha512 => h0Sha512

theorem initialWord_eq_getD (a : Alg) (i : Nat) : initialWord a i = (initialWords a).getD i 0#64 := by
  cases a with
  | sha1 => exact (List.getD_map h0Sha1 0#32 zext64).symm
  | sha256 => exact (List.getD_map h0Sha256 0#32 zext64).symm
  | sha512 => rfl

theorem length_initialWords (a : Alg) : (initialWords a).length = stateWords a := by cases a <;> rfl

theorem initialWord_of_stateWords_le {a : Alg} {i : Nat} (h : stateWords a ≤ i) : initialWord a i = 0#64 := by
  rw [initialWord_eq_getD, List.getD_eq_default _ _ (length_initialWords a ▸ h)]

/-- The registers of the initial hash state hold the NH words of the algorithm, and 0 above (R282). -/
theorem readAt_initialHash_eq_ite (a : Alg) {i : Nat} (h : i < 8) :
    readAt (initialHash a) i 0#64 = if i < stateWords a then initialWord a i else 0#64 := by
  rw [readAt_initialHash a i h]
  split
  case isTrue => rfl
  case isFalse hNH => exact initialWord_of_stateWords_le (Nat.not_lt.1 hNH)

/-! ## INIT -/

theorem exec_init_field (a : Alg) (s : State) : exec (.init a.field) s = .next (startComputation a s) :=
  execInit_field a s

theorem exec_init_three (s : State) : exec (.init 3#2) s = .next (raiseError .illegalAlg s) := execInit_three s

theorem sameBus_startComputation (a : Alg) (s : State) : SameBus s (startComputation a s) := by simp [SameBus]

/-- Settles O7: an ALG field 0 to 2 is its algorithm's and starts the computation, whose H words are the H0 table's
numbers; field 3 is the error entry. -/
theorem initStartsAComputation : Obligations.InitStartsAComputation := by
  intro s
  refine ⟨fun a x hx => ?legal, fun x hx => ?illegal⟩
  case legal =>
    obtain rfl : x = a.field := BitVec.eq_of_toNat_eq (by cases a <;> exact hx)
    refine ⟨startComputation a s, exec_init_field a s, startComputation_mode s a, startComputation_alg s a,
      startComputation_errcode s a, fun i hi => ?words, fun i hi => ?zeros, startComputation_h s a,
      startComputation_fill s a, startComputation_mlen s a, startComputation_cph s a, startComputation_t s a,
      startComputation_pstage s a, startComputation_data s a, startComputation_buf s a, startComputation_v s a,
      startComputation_sch s a, sameBus_startComputation a s⟩
    case words =>
      rw [startComputation_h, readAt_initialHash a i hi, initialWord_eq_getD]
      cases a <;> rfl
    case zeros => rw [startComputation_h, readAt_initialHash_eq_ite a hi]
  case illegal =>
    obtain rfl : x = 3#2 := BitVec.eq_of_toNat_eq hx
    exact ⟨raiseError .illegalAlg s, exec_init_three s, errorEntered_raiseError .illegalAlg s⟩

end Sys2Proof.Machine
end

section
/-!
PROOFS. The padded stream (42_padder_segmenter.md R191, R192): its length, its parts byte by byte, and the big-endian
value of its length field.
-/

namespace Sys2Proof.Machine

/-! ## The big-endian encoding -/

/-- One byte more in the encoding: the first n bytes are those of the value without its last byte. -/
theorem beByte_succ_of_lt (value : Nat) {n j : Nat} (h : j < n) :
    beByte value (n + 1) j = beByte (value / 256) n j := by
  have hexp : n + 1 - 1 - j = n - 1 - j + 1 := by omega
  rw [beByte, beByte, hexp, Nat.div_div_eq_div_mul, Nat.pow_succ']

theorem beByte_last_toNat (value n : Nat) : (beByte value (n + 1) n).toNat = value % 256 := by simp [beByte]

theorem getD_beBytes (value : Nat) {n j : Nat} (d : BitVec 8) (h : j < n) :
    (beBytes value n).getD j d = beByte value n j := by
  simp [beBytes, h]

/-- Reading an encoding back gives the value modulo 2^(8n) (R18). -/
theorem bigEndian_beByte (value n : Nat) : bigEndian (beByte value n) n = value % 256 ^ n := by
  induction n generalizing value with
  | zero => rw [bigEndian_zero, Nat.pow_zero, Nat.mod_one]
  | succ n ih =>
    have hfirst : bigEndian (beByte value (n + 1)) n = value / 256 % 256 ^ n := by
      rw [bigEndian_congr _ _ n fun _ hj => beByte_succ_of_lt value hj, ih]
    rw [bigEndian_succ, hfirst, beByte_last_toNat, Nat.pow_succ', Nat.mod_mul]
    omega

theorem pow_lenBytes (a : Alg) : 256 ^ lenBytes a = 2 ^ lenBits a := by cases a <;> rfl

theorem bigEndian_lengthField (a : Alg) (n : Nat) :
    bigEndian (beByte (lengthField a n) (lenBytes a)) (lenBytes a) = 8 * n % 2 ^ lenBits a := by
  rw [bigEndian_beByte, pow_lenBytes, lengthField, Nat.mod_mod]

/-! ## The number of zero bytes -/

theorem padZeros_lt (a : Alg) (n : Nat) : padZeros a n < blockBytes a := by
  unfold padZeros
  rcases blockBytes_cases a with ⟨-, hB, hL⟩ | ⟨-, hB, hL⟩ <;> rw [hB, hL] <;> omega

/-- With its k zeros the stream ends at a block boundary. -/
theorem padZeros_fills_block (a : Alg) (n : Nat) : (n + 1 + padZeros a n + lenBytes a) % blockBytes a = 0 := by
  unfold padZeros
  rcases blockBytes_cases a with ⟨-, hB, hL⟩ | ⟨-, hB, hL⟩ <;> rw [hB, hL] <;> omega

/-! ## The bytes of the stream -/

theorem length_pad (a : Alg) (m : List (BitVec 8)) :
    (pad a m).length = m.length + 1 + padZeros a m.length + lenBytes a := by
  rw [pad, List.length_append, List.length_append, List.length_append, List.length_singleton, List.length_replicate,
    beBytes_length]

/-- The stream after the message. -/
theorem pad_eq_append (a : Alg) (m : List (BitVec 8)) :
    pad a m = m ++ (0x80#8 :: (List.replicate (padZeros a m.length) 0x00#8
      ++ beBytes (lengthField a m.length) (lenBytes a))) := by
  simp [pad]

theorem take_pad (a : Alg) (m : List (BitVec 8)) : (pad a m).take m.length = m := by
  rw [pad_eq_append, List.take_left]

theorem getD_pad_mark (a : Alg) (m : List (BitVec 8)) (d : BitVec 8) : (pad a m).getD m.length d = 0x80#8 := by
  rw [pad_eq_append, List.getD_append_right _ _ _ _ le_rfl, Nat.sub_self, List.getD_cons_zero]

/-- Past the mark the stream is its zeros and its length field. -/
theorem getD_pad_after_mark (a : Alg) (m : List (BitVec 8)) (k : Nat) (d : BitVec 8) :
    (pad a m).getD (m.length + 1 + k) d =
      (List.replicate (padZeros a m.length) 0x00#8 ++ beBytes (lengthField a m.length) (lenBytes a)).getD k d := by
  have hpos : m.length + 1 + k - m.length = k + 1 := by omega
  rw [pad_eq_append, List.getD_append_right _ _ _ _ (by omega), hpos, List.getD_cons_succ]

theorem getD_pad_zero (a : Alg) (m : List (BitVec 8)) {k : Nat} (d : BitVec 8) (h : k < padZeros a m.length) :
    (pad a m).getD (m.length + 1 + k) d = 0x00#8 := by
  rw [getD_pad_after_mark, List.getD_append _ _ _ _ (by rwa [List.length_replicate]), List.getD_replicate _ h]

theorem getD_pad_lengthField (a : Alg) (m : List (BitVec 8)) {j : Nat} (d : BitVec 8) (h : j < lenBytes a) :
    (pad a m).getD ((pad a m).length - lenBytes a + j) d = beByte (lengthField a m.length) (lenBytes a) j := by
  have hpos : (pad a m).length - lenBytes a + j = m.length + 1 + (padZeros a m.length + j) := by
    rw [length_pad]
    omega
  rw [hpos, getD_pad_after_mark, List.getD_append_right _ _ _ _ (by simp), List.length_replicate,
    Nat.add_sub_cancel_left, getD_beBytes _ _ h]

/-! ## The obligation -/

/-- Settles O42: the parts of the stream byte by byte; its k zeros fill the last block and are fewer than a block. -/
theorem paddedStreamIsLeast : Obligations.PaddedStreamIsLeast := by
  intro a m
  have hlen := length_pad a m
  refine ⟨take_pad a m, getD_pad_mark a m _, fun i hlo hhi => ?zeros, ?field, ?whole, ?holds, ?least⟩
  case zeros =>
    obtain ⟨k, rfl⟩ := Nat.exists_eq_add_of_le (Nat.succ_le_of_lt hlo)
    exact getD_pad_zero a m _ (by omega)
  case field =>
    rw [bigEndian_congr _ _ _ fun _ hj => getD_pad_lengthField a m _ hj, bigEndian_lengthField]
  case whole => rw [hlen, padZeros_fills_block]
  case holds => omega
  case least =>
    have hzeros := padZeros_lt a m.length
    omega

end Sys2Proof.Machine
end

section
/-!
PROOFS. The message schedule (43_schedule_expander.md R220 to R223): the expansion formulas in the library's rotation
and sum, the earlier words they read, and the words of a block's schedule.
-/

namespace Sys2Proof.Machine

/-! ## The expansion formulas -/

theorem rotl_eq_rotateLeft {w : Nat} (x : BitVec w) {n : Nat} (h : n < w) : rotl x n = x.rotateLeft n :=
  (BitVec.rotateLeft_eq_rotateLeftAux_of_lt h).symm

theorem low32_toNat (x : BitVec 64) : (low32 x).toNat = x.toNat % 2 ^ 32 := BitVec.toNat_setWidth 32 x

theorem zext64_toNat (x : BitVec 32) : (zext64 x).toNat = x.toNat := BitVec.toNat_setWidth_of_le (by decide)

theorem sha2Expand_toNat {w : Nat} (m : Mixing w) (x2 x7 x15 x16 : BitVec w) :
    (sha2Expand m x2 x7 x15 x16).toNat =
      ((m.sigma1 x2).toNat + x7.toNat + (m.sigma0 x15).toNat + x16.toNat) % 2 ^ w := by
  rw [sha2Expand, addW_toNat]
  simp [Nat.add_assoc]

/-- Settles O39: SHA-1's rotation is the library's; SHA-256 and SHA-512 share one sum of four words, SHA-256 on the low
halves of the registers. -/
theorem expansionFormulas : Obligations.ExpansionFormulas := by
  intro s t _
  refine ⟨?sha1, ?sha256, ?sha512⟩
  case sha1 => exact congrArg zext64 (rotl_eq_rotateLeft _ (by decide))
  case sha256 =>
    rw [expandWord, zext64_toNat, sha2Expand_toNat, low32_toNat (s (t - 7)), low32_toNat (s (t - 16))]
    rfl
  case sha512 => exact sha2Expand_toNat mixing64 _ _ _ _

/-! ## The words of a schedule -/

/-- From t = 16 on a derived word depends only on the words before it. -/
theorem expandWord_congr (a : Alg) {s r : Nat → BitVec 64} {t : Nat} (ht : 16 ≤ t) (h : ∀ i, i < t → s i = r i) :
    expandWord a s t = expandWord a r t := by
  have hback : ∀ d, 1 ≤ d → s (t - d) = r (t - d) := fun d hd => h (t - d) (by omega)
  cases a <;> simp [expandWord, hback]

/-- The schedule of a block after its first n derived words (R220, R225). -/
def scheduleUpTo (a : Alg) (words : List (BitVec 64)) (n : Nat) : Vector (BitVec 64) 80 :=
  (List.range n).foldl (fun s j => scheduleExtend a s (16 + j)) (scheduleStart words)

theorem schedule_eq_scheduleUpTo (a : Alg) (words : List (BitVec 64)) :
    schedule a words = scheduleUpTo a words (rounds a - 16) := rfl

theorem scheduleUpTo_zero (a : Alg) (words : List (BitVec 64)) : scheduleUpTo a words 0 = scheduleStart words := rfl

theorem scheduleUpTo_succ (a : Alg) (words : List (BitVec 64)) (n : Nat) :
    scheduleUpTo a words (n + 1) = scheduleExtend a (scheduleUpTo a words n) (16 + n) := by
  simp [scheduleUpTo, List.range_succ]

theorem readAt_scheduleStart (words : List (BitVec 64)) {t : Nat} (h : t < 16) :
    readAt (scheduleStart words) t 0#64 = words.getD t 0#64 := by
  rw [scheduleStart, readAt_writeRange, if_pos (by omega)]

theorem readAt_scheduleExtend_self (a : Alg) (s : Vector (BitVec 64) 80) {t : Nat} (h : t < 80) :
    readAt (scheduleExtend a s t) t 0#64 = expandWord a (fun i => readAt s i 0#64) t := by
  rw [scheduleExtend, readAt_writeAt, if_pos ⟨rfl, h⟩]

theorem readAt_scheduleExtend_of_ne (a : Alg) (s : Vector (BitVec 64) 80) {i t : Nat} (h : i ≠ t) :
    readAt (scheduleExtend a s t) i 0#64 = readAt s i 0#64 := by
  rw [scheduleExtend, readAt_writeAt, if_neg (not_and_of_not_left _ h)]

/-- A word once in the schedule stays: every later derivation writes above it. -/
theorem readAt_scheduleUpTo_of_le (a : Alg) (words : List (BitVec 64)) {i n m : Nat} (hi : i < 16 + n) (h : n ≤ m) :
    readAt (scheduleUpTo a words m) i 0#64 = readAt (scheduleUpTo a words n) i 0#64 := by
  induction m, h using Nat.le_induction with
  | base => rfl
  | succ m hm ih => rw [scheduleUpTo_succ, readAt_scheduleExtend_of_ne a _ (by omega), ih]

/-- The whole schedule reads below 16 + n as the schedule with only n derived words does. -/
theorem readAt_schedule_eq_scheduleUpTo (a : Alg) (words : List (BitVec 64)) {i n : Nat} (hi : i < 16 + n)
    (h : 16 + n ≤ rounds a) : readAt (schedule a words) i 0#64 = readAt (scheduleUpTo a words n) i 0#64 := by
  rw [schedule_eq_scheduleUpTo, readAt_scheduleUpTo_of_le a words hi (by omega)]

theorem readAt_schedule_of_lt (a : Alg) (words : List (BitVec 64)) {t : Nat} (h : t < 16) :
    readAt (schedule a words) t 0#64 = words.getD t 0#64 := by
  have hrounds := rounds_ge a
  rw [readAt_schedule_eq_scheduleUpTo a words (n := 0) h (by omega), scheduleUpTo_zero, readAt_scheduleStart words h]

/-- Word 16 + n is derived from the schedule with n derived words, and the whole schedule agrees with it there. -/
theorem readAt_schedule_add (a : Alg) (words : List (BitVec 64)) {n : Nat} (h : 16 + n < rounds a) :
    readAt (schedule a words) (16 + n) 0#64 =
      expandWord a (fun i => readAt (schedule a words) i 0#64) (16 + n) := calc
  readAt (schedule a words) (16 + n) 0#64 = readAt (scheduleUpTo a words (n + 1)) (16 + n) 0#64 :=
    readAt_schedule_eq_scheduleUpTo a words (by omega) (by omega)
  _ = expandWord a (fun i => readAt (scheduleUpTo a words n) i 0#64) (16 + n) := by
    rw [scheduleUpTo_succ, readAt_scheduleExtend_self a _ (h.trans_le (rounds_le a))]
  _ = expandWord a (fun i => readAt (schedule a words) i 0#64) (16 + n) :=
    expandWord_congr a (Nat.le_add_right 16 n) fun _ hi =>
      (readAt_schedule_eq_scheduleUpTo a words hi h.le).symm

/-- Settles O44: the block's words stand below 16, and the word at 16 + n is derived from the schedule's own words. -/
theorem scheduleRecurrence : Obligations.ScheduleRecurrence := by
  intro a words _
  refine ⟨fun t ht => readAt_schedule_of_lt a words ht, fun t ht hrounds => ?derived⟩
  case derived =>
    obtain ⟨n, rfl⟩ := Nat.exists_eq_add_of_le ht
    exact readAt_schedule_add a words hrounds

end Sys2Proof.Machine
end

section
/-!
PROOFS. The compressor (44_compressor.md R241 to R244, R251): the rounds as library sums, with the function and the
constant of a SHA-1 round by phase, and the length of the rendered digest.
-/

namespace Sys2Proof.Machine

/-! ## The words of a round -/

theorem low32_zext64 (x : BitVec 32) : low32 (zext64 x) = x :=
  BitVec.eq_of_toNat_eq (by rw [low32_toNat, zext64_toNat, Nat.mod_eq_of_lt x.isLt])

/-- Choice in the library's complement (R135, R139). -/
theorem ch_eq_or {w : Nat} (a b c : BitVec w) : ch a b c = (~~~a &&& c) ||| (a &&& b) := by rw [ch, notW_eq_not]

theorem addW_pair_toNat {w : Nat} (x y : BitVec w) : (addW [x, y]).toNat = (x.toNat + y.toNat) % 2 ^ w := by
  simp [addW_toNat]

/-- The sum of five words that the SHA-1 round and T1 form. -/
theorem addW_five_toNat {w : Nat} (x₁ x₂ x₃ x₄ x₅ : BitVec w) :
    (addW [x₁, x₂, x₃, x₄, x₅]).toNat = (x₁.toNat + x₂.toNat + x₃.toNat + x₄.toNat + x₅.toNat) % 2 ^ w := by
  simp [addW_toNat, Nat.add_assoc]

/-! ## The SHA-1 round -/

/-- The four phases of 20 rounds each, by their boundaries. -/
theorem sha1Phase_cases {t : Nat} (h : t < 80) :
    (t < 20 ∧ sha1Phase t = 0) ∨ (¬ t < 20 ∧ t < 40 ∧ sha1Phase t = 1)
      ∨ (¬ t < 20 ∧ ¬ t < 40 ∧ t < 60 ∧ sha1Phase t = 2) ∨ (¬ t < 20 ∧ ¬ t < 40 ∧ ¬ t < 60 ∧ sha1Phase t = 3) := by
  unfold sha1Phase
  omega

/-- R241. -/
theorem sha1F_eq_ite {t : Nat} (h : t < 80) (b c d : BitVec 32) :
    sha1F t b c d =
      if t < 20 then (~~~b &&& d) ||| (b &&& c)
      else if t < 40 then b ^^^ c ^^^ d
      else if t < 60 then (b &&& c) ||| (b &&& d) ||| (c &&& d)
      else b ^^^ c ^^^ d := by
  rcases sha1Phase_cases h with ⟨h20, hphase⟩ | ⟨h20, h40, hphase⟩ | ⟨h20, h40, h60, hphase⟩ | ⟨h20, h40, h60, hphase⟩
  · simp [sha1F, hphase, h20, ch_eq_or]
  · simp [sha1F, hphase, h20, h40, xor3]
  · simp [sha1F, hphase, h20, h40, h60, maj]
  · simp [sha1F, hphase, h20, h40, h60, xor3]

/-- R174, R241. -/
theorem kSha1_eq_ite {t : Nat} (h : t < 80) :
    kSha1 t =
      if t < 20 then 0x5A827999#32 else if t < 40 then 0x6ED9EBA1#32 else if t < 60 then 0x8F1BBCDC#32
      else 0xCA62C1D6#32 := by
  rcases sha1Phase_cases h with ⟨h20, hphase⟩ | ⟨h20, h40, hphase⟩ | ⟨h20, h40, h60, hphase⟩ | ⟨h20, h40, h60, hphase⟩
  · simp [kSha1, hphase, h20]
  · simp [kSha1, hphase, h20, h40]
  · simp [kSha1, hphase, h20, h40, h60]
  · simp [kSha1, hphase, h20, h40, h60]

/-- R242. -/
theorem sha1New_toNat (t : Nat) (k s a b c d e : BitVec 32) :
    (sha1New t k s a b c d e).toNat =
      ((a.rotateLeft 5).toNat + (sha1F t b c d).toNat + k.toNat + s.toNat + e.toNat) % 2 ^ 32 := by
  rw [sha1New, addW_five_toNat, rotl_eq_rotateLeft a (by decide)]

/-- Settles O40: f and k are the phase's, and the other words move as R242 says. -/
theorem sha1RoundFormula : Obligations.Sha1RoundFormula := by
  intro t s v ht
  refine ⟨low32 (v 0), low32 (v 1), low32 (v 2), low32 (v 3), low32 (v 4),
    sha1F t (low32 (v 1)) (low32 (v 2)) (low32 (v 3)), kSha1 t,
    sha1New t (kSha1 t) (low32 s) (low32 (v 0)) (low32 (v 1)) (low32 (v 2)) (low32 (v 3)) (low32 (v 4)),
    rfl, rfl, rfl, rfl, rfl, sha1F_eq_ite ht _ _ _, kSha1_eq_ite ht, ?new, ?words⟩
  case new => rw [sha1New_toNat, low32_toNat s]
  case words =>
    rw [roundWords, sha1Round, rotl_eq_rotateLeft _ (by decide)]
    rfl

/-! ## The SHA-256 and SHA-512 rounds -/

theorem sha2T1_toNat {w : Nat} (m : Mixing w) (k s e f g h : BitVec w) :
    (sha2T1 m k s e f g h).toNat =
      ((m.bigSigma1 e).toNat + ((~~~e &&& g) ||| (e &&& f)).toNat + h.toNat + s.toNat + k.toNat) % 2 ^ w := by
  rw [sha2T1, addW_five_toNat, ch_eq_or]

theorem sha2T2_toNat {w : Nat} (m : Mixing w) (a b c : BitVec w) :
    (sha2T2 m a b c).toNat =
      ((m.bigSigma0 a).toNat + ((a &&& b) ||| (a &&& c) ||| (b &&& c)).toNat) % 2 ^ w := by
  rw [sha2T2, addW_pair_toNat, maj]

/-- One round for both widths (R243, R244): its two sums T1 and T2, the two words formed from them, and the moves. -/
theorem exists_sha2Round_eq {w : Nat} (m : Mixing w) (k s a b c d e f g h : BitVec w) :
    ∃ t1 t2 new new4 : BitVec w,
      t1.toNat = ((m.bigSigma1 e).toNat + ((~~~e &&& g) ||| (e &&& f)).toNat + h.toNat + s.toNat + k.toNat) % 2 ^ w
      ∧ t2.toNat = ((m.bigSigma0 a).toNat + ((a &&& b) ||| (a &&& c) ||| (b &&& c)).toNat) % 2 ^ w
      ∧ new.toNat = (t1.toNat + t2.toNat) % 2 ^ w ∧ new4.toNat = (d.toNat + t1.toNat) % 2 ^ w
      ∧ sha2Round m k s a b c d e f g h = [new, a, b, c, new4, e, f, g] :=
  ⟨sha2T1 m k s e f g h, sha2T2 m a b c, _, _, sha2T1_toNat m k s e f g h, sha2T2_toNat m a b c,
    addW_pair_toNat _ _, addW_pair_toNat _ _, rfl⟩

/-- Settles O41: both are the round of one shape, SHA-256 on the low halves of the registers. -/
theorem sha2RoundFormulas : Obligations.Sha2RoundFormulas := by
  intro t s v
  refine ⟨fun _ => ?sha256, fun _ => ?sha512⟩
  case sha256 =>
    obtain ⟨t1, t2, new, new4, ht1, ht2, hnew, hnew4, hwords⟩ :=
      exists_sha2Round_eq mixing32 (kSha256Table.getD t 0#32) (low32 s) (low32 (v 0)) (low32 (v 1)) (low32 (v 2))
        (low32 (v 3)) (low32 (v 4)) (low32 (v 5)) (low32 (v 6)) (low32 (v 7))
    rw [low32_toNat s] at ht1
    refine ⟨_, _, _, _, _, _, _, _, t1, t2, new, new4, rfl, rfl, rfl, rfl, rfl, rfl, rfl, rfl, ht1, ht2, hnew, hnew4, ?_⟩
    rw [roundWords, roundConstant, low32_zext64, hwords]
    rfl
  case sha512 => exact exists_sha2Round_eq mixing64 (kSha512Table.getD t 0#64) s _ _ _ _ _ _ _ _

/-! ## The rendered digest -/

@[simp] theorem length_renderWord (digits x : Nat) : (renderWord digits x).length = digits := by simp [renderWord]

theorem length_digest (a : Alg) (m : List (BitVec 8)) : (digest a m).length = stateWords a := by
  rw [digest, List.length_take, Vector.length_toList, Nat.min_eq_left (stateWords_le a)]

/-- R250: every word is rendered with the same number of digits. -/
theorem length_render (a : Alg) (words : List (BitVec 64)) :
    (render a words).length = words.length * (wordBits a / 4) := by
  simp [render, List.length_flatMap]

theorem length_render_digest (a : Alg) (m : List (BitVec 8)) :
    (render a (digest a m)).length = digestHexDigits a := by
  rw [length_render, length_digest, digestHexDigits]

/-- Settles O45: NH × W/4 digits are 5 × 8, 8 × 8 and 8 × 16. -/
theorem renderedDigestLengths : Obligations.RenderedDigestLengths :=
  fun m => ⟨length_render_digest .sha1 m, length_render_digest .sha256 m, length_render_digest .sha512 m⟩

end Sys2Proof.Machine
end

section
/-!
PROOFS. The host's accesses of the window (45_host_commands.md R285 to R291): the step of a read or a write when the
host moves, the value of the register at each offset, and what a write elsewhere than CMD does.
-/

namespace Sys2Proof.Machine

/-! ## The host's step -/

theorem step_eq_hostTurn {s : State} (h : HostMoves s) : step s = hostTurn (turnTaken s) := by
  rcases h with hturn | ⟨hnone, hidle⟩
  · obtain ⟨rest, hrest⟩ := List.head?_eq_some_iff.1 hturn
    rw [← turnTaken_eq s hrest, step, hrest]
  · rw [turnTaken_nil s hnone, step, hnone]
    simp [hidle]

theorem hostTurn_of_read {s : State} {addr width : Nat} {rest : List HostOp} (h : s.host = .read addr width :: rest) :
    hostTurn (turnTaken s) = hostRead addr width (issued s) := by
  rw [hostTurn, turnTaken_host, h, ← issued_of_cons s h]

theorem hostTurn_of_write {s : State} {addr width : Nat} {value : BitVec 32} {rest : List HostOp}
    (h : s.host = .write addr width value :: rest) :
    hostTurn (turnTaken s) = hostWrite addr width value (issued s) := by
  rw [hostTurn, turnTaken_host, h, ← issued_of_cons s h]

theorem hostRead_of_register {s : State} {addr width off : Nat}
    (h : busTarget s.engineBase addr width = .register off) :
    hostRead addr width s = .next (respond (readRegister off s) s) := by
  rw [hostRead, h]

theorem hostWrite_of_register {s : State} {addr width off : Nat}
    (h : busTarget s.engineBase addr width = .register off) (value : BitVec 32) :
    hostWrite addr width value s = writeRegister off value s := by
  rw [hostWrite, h]

/-- A read in the window answers its register's value, from the state with the read issued. -/
theorem step_of_read {s : State} {off : Nat} {rest : List HostOp} (hbase : s.engineBase % 128 = 0) (hoff : off % 4 = 0)
    (hlt : off < 128) (hmoves : HostMoves s) (hhost : s.host = .read (s.engineBase + off) 4 :: rest) :
    step s = .next (respond (readRegister off (issued s)) (issued s)) := by
  rw [step_eq_hostTurn hmoves, hostTurn_of_read hhost]
  exact hostRead_of_register (s := issued s) (busTarget_register _ off hbase hoff hlt)

/-- A write in the window writes its register, on the state with the write issued. -/
theorem step_of_write {s : State} {off : Nat} {value : BitVec 32} {rest : List HostOp}
    (hbase : s.engineBase % 128 = 0) (hoff : off % 4 = 0) (hlt : off < 128) (hmoves : HostMoves s)
    (hhost : s.host = .write (s.engineBase + off) 4 value :: rest) :
    step s = writeRegister off value (issued s) := by
  rw [step_eq_hostTurn hmoves, hostTurn_of_write hhost]
  exact hostWrite_of_register (s := issued s) (busTarget_register _ off hbase hoff hlt) value

theorem sameEngine_issued (s : State) : SameEngine s (issued s) := by simp [SameEngine]

/-! ## Reads -/

theorem readRegister_cmd (s : State) : readRegister 0x00 s = 0#32 := rfl

theorem readRegister_data (s : State) : readRegister 0x04 s = s.data := rfl

theorem readRegister_status (s : State) : readRegister 0x08 s = statusWord s := rfl

theorem readRegister_reserved {off : Nat} (hlo : 0x0C ≤ off) (hhi : off ≤ 0x3C) (s : State) :
    readRegister off s = 0#32 := by
  rw [readRegister, if_neg (by omega), if_neg (by omega), if_neg (by omega)]

theorem readRegister_digest (i : Nat) (s : State) : readRegister (0x40 + 4 * i) s = digestWord s i := by
  rw [readRegister, if_neg (by omega), if_neg (by omega), if_pos (by omega)]
  congr 1
  omega

/-- The registers read what they read before the access was issued: issuing it changes the bus side only. -/
theorem readRegister_issued (off : Nat) (s : State) : readRegister off (issued s) = readRegister off s := rfl

theorem sameEngine_respond_issued (value : BitVec 32) (s : State) : SameEngine s (respond value (issued s)) := by
  simp [SameEngine]

/-- Settles O15: the step records the value of the register at the offset, in each range of offsets. -/
theorem registerReadsReturnValues : Obligations.RegisterReadsReturnValues := by
  intro s off rest hbase hoff hlt hmoves hhost
  have hstep := step_of_read hbase hoff hlt hmoves hhost
  rw [readRegister_issued] at hstep
  refine ⟨respond (readRegister off s) (issued s), readRegister off s, hstep, sameEngine_respond_issued _ s,
    by simp, by simp [hhost], by simp, by simp, by simp, ?cmd, ?data, ?status, ?reserved, ?digest⟩
  case cmd => rintro rfl; exact readRegister_cmd s
  case data => rintro rfl; exact readRegister_data s
  case status => rintro rfl; exact readRegister_status s
  case reserved => rintro ⟨hlo, hhi⟩; exact readRegister_reserved hlo hhi s
  case digest => rintro i - rfl; exact readRegister_digest i s

/-! ## Writes -/

theorem writeRegister_data (value : BitVec 32) (s : State) :
    writeRegister 0x04 value s = .next (writeData value s) := rfl

theorem writeRegister_of_le {off : Nat} (h : 0x08 ≤ off) (value : BitVec 32) (s : State) :
    writeRegister off value s = .next s := by
  rw [writeRegister, if_neg (by omega), if_neg (by omega)]

/-- Settles O16: from offset 0x08 up nothing is written, so the step only issues the write. -/
theorem writesElsewhereAreIgnored : Obligations.WritesElsewhereAreIgnored := by
  intro s off value rest hbase hoff hlo hlt hmoves hhost
  have hstep := step_of_write hbase hoff hlt hmoves hhost
  rw [writeRegister_of_le hlo] at hstep
  refine ⟨issued s, hstep, sameEngine_issued s, ?_⟩
  simp [hhost]

/-- Settles O17: the write at 0x04 is DATA's, on the state with the write issued. -/
theorem dataWriteWritesOnlyData : Obligations.DataWriteWritesOnlyData := by
  intro s value rest hbase hmoves hhost
  have hstep := step_of_write hbase (by decide) (by decide) hmoves hhost
  rw [writeRegister_data] at hstep
  refine ⟨writeData value (issued s), hstep, writeData_data _ value, ?_⟩
  simp [SameEngine, hhost]

end Sys2Proof.Machine
end

section
/-!
PROOFS. NOP, PUSH and FINISH (45_host_commands.md R280, R281, R283, R284): the errors PUSH and FINISH share outside
ACCEPT, the bytes a PUSH appends, and the dispatch of a CMD write.
-/

namespace Sys2Proof.Machine

/-! ## NOP -/

theorem exec_nop (s : State) : exec .nop s = .next s := rfl

/-- Settles O6: NOP's arm answers the state itself. -/
theorem nopChangesNothing : Obligations.NopChangesNothing := exec_nop

/-! ## The states other than ACCEPT -/

theorem whenAccepting_of_accept {s : State} (h : s.mode = .accept) (acc : State) : whenAccepting s acc = acc := by
  rw [whenAccepting, h]

theorem whenAccepting_of_uninit {s : State} (h : s.mode = .uninit) (acc : State) :
    whenAccepting s acc = raiseError .notInit s := by
  rw [whenAccepting, h]

theorem whenAccepting_of_busy {s : State} (h : s.mode = .busyBlock ∨ s.mode = .busyFinal) (acc : State) :
    whenAccepting s acc = raiseError .busy s := by
  rcases h with h | h <;> rw [whenAccepting, h]

theorem whenAccepting_of_done {s : State} (h : s.mode = .done) (acc : State) :
    whenAccepting s acc = raiseError .afterDone s := by
  rw [whenAccepting, h]

theorem whenAccepting_of_error {s : State} (h : s.mode = .error) (acc : State) : whenAccepting s acc = s := by
  rw [whenAccepting, h]

/-- A command that goes by the case on STATE raises the error of the state outside ACCEPT, and is ignored in ERROR. -/
theorem raises_unless_accepting {i : Instr} {s acc : State} (hexec : exec i s = .next (whenAccepting s acc)) :
    (s.mode = .uninit → ∃ t, exec i s = .next t ∧ ErrorEntered .notInit s t)
      ∧ (s.mode = .busyBlock ∨ s.mode = .busyFinal → ∃ t, exec i s = .next t ∧ ErrorEntered .busy s t)
      ∧ (s.mode = .done → ∃ t, exec i s = .next t ∧ ErrorEntered .afterDone s t)
      ∧ (s.mode = .error → exec i s = .next s) := by
  refine ⟨fun h => ?uninit, fun h => ?busy, fun h => ?done, fun h => ?error⟩
  case uninit => exact ⟨_, by rw [hexec, whenAccepting_of_uninit h], errorEntered_raiseError _ s⟩
  case busy => exact ⟨_, by rw [hexec, whenAccepting_of_busy h], errorEntered_raiseError _ s⟩
  case done => exact ⟨_, by rw [hexec, whenAccepting_of_done h], errorEntered_raiseError _ s⟩
  case error => rw [hexec, whenAccepting_of_error h]

/-! ## PUSH -/

theorem exec_push (nb : BitVec 2) (s : State) :
    exec (.push nb) s = .next (whenAccepting s
      (if s.fill.toNat + pushCount nb > blockBytes s.alg then raiseError .overrun s
       else startFullBlock (appendBytes (pushCount nb) s))) := rfl

theorem exec_push_of_room {s : State} {nb : BitVec 2} (h : s.mode = .accept)
    (hroom : s.fill.toNat + pushCount nb ≤ blockBytes s.alg) :
    exec (.push nb) s = .next (startFullBlock (appendBytes (pushCount nb) s)) := by
  rw [exec_push, whenAccepting_of_accept h, if_neg (Nat.not_lt.2 hroom)]

theorem exec_push_of_overrun {s : State} {nb : BitVec 2} (h : s.mode = .accept)
    (hover : blockBytes s.alg < s.fill.toNat + pushCount nb) :
    exec (.push nb) s = .next (raiseError .overrun s) := by
  rw [exec_push, whenAccepting_of_accept h, if_pos hover]

theorem dataByte_eq_extractLsb' (data : BitVec 32) (k : Nat) : dataByte data k = data.extractLsb' (24 - 8 * k) 8 :=
  BitVec.setWidth_ushiftRight_eq_extractLsb

section Append
variable {s : State} {n : Nat}

/-- Byte k of DATA goes to BUF[FILL + k] (20_memory.md R78). -/
theorem readAt_appendBytes_new (hroom : s.fill.toNat + n ≤ blockBytes s.alg) {k : Nat} (hk : k < n) :
    readAt (appendBytes n s).buf (s.fill.toNat + k) 0#8 = s.data.extractLsb' (24 - 8 * k) 8 := by
  have hblock := blockBytes_le s.alg
  rw [appendBytes_buf, readAt_writeRange, if_pos (by omega), Nat.add_sub_cancel_left, dataByte_eq_extractLsb']

theorem readAt_appendBytes_old {j : Nat} (hj : j < s.fill.toNat ∨ s.fill.toNat + n ≤ j) :
    readAt (appendBytes n s).buf j 0#8 = readAt s.buf j 0#8 := by
  rw [appendBytes_buf, readAt_writeRange, if_neg (by omega)]

theorem appendBytes_fill_toNat (hroom : s.fill.toNat + n ≤ blockBytes s.alg) :
    (appendBytes n s).fill.toNat = s.fill.toNat + n := by
  have hblock := blockBytes_le s.alg
  rw [appendBytes_fill, BitVec.toNat_ofNat, Nat.mod_eq_of_lt (by omega)]

/-- The length modulo 2^L fits in MLEN, whose 128 bits are the widest L. -/
theorem appendBytes_mlen_toNat : (appendBytes n s).mlen.toNat = (s.mlen.toNat + 8 * n) % 2 ^ lenBits s.alg := by
  rw [appendBytes_mlen, BitVec.toNat_ofNat, Nat.mod_mod_of_dvd' (pow_dvd_pow 2 (lenBits_le s.alg))]

theorem startFullBlock_mode_cph_of_full (h : s.fill.toNat = blockBytes s.alg) :
    (startFullBlock s).mode = .busyBlock ∧ (startFullBlock s).cph = .load := by
  rw [startFullBlock_mode, startFullBlock_cph, if_pos h, if_pos h]
  exact ⟨rfl, rfl⟩

theorem startFullBlock_of_not_full (h : s.fill.toNat ≠ blockBytes s.alg) : startFullBlock s = s := if_neg h

end Append

/-- Settles O8: with room the bytes are appended and a full block starts; else the overrun or the state's error. -/
theorem pushAppendsOrRaises : Obligations.PushAppendsOrRaises := by
  intro s nb
  refine ⟨fun h hroom => ?room, fun h hover => ?overrun, raises_unless_accepting (exec_push nb s)⟩
  case room =>
    have hfill : (appendBytes (pushCount nb) s).fill.toNat = s.fill.toNat + pushCount nb := appendBytes_fill_toNat hroom
    refine ⟨_, exec_push_of_room h hroom, fun k hk => ?new, fun j hj => ?old, ?fill, ?mlen, fun hfull => ?full,
      fun hpart => ?part, ?frame⟩
    case new => rw [startFullBlock_buf]; exact readAt_appendBytes_new hroom hk
    case old => rw [startFullBlock_buf]; exact readAt_appendBytes_old hj
    case fill => rw [startFullBlock_fill]; exact hfill
    case mlen => rw [startFullBlock_mlen]; exact appendBytes_mlen_toNat
    case full => exact startFullBlock_mode_cph_of_full (hfill.trans hfull)
    case part =>
      rw [startFullBlock_of_not_full (hfill.trans_ne hpart)]
      exact ⟨h, appendBytes_cph s _⟩
    case frame => simp [SameBus]
  case overrun => exact ⟨_, exec_push_of_overrun h hover, errorEntered_raiseError _ s⟩

/-! ## FINISH and the dispatch of a CMD write -/

theorem exec_finish (s : State) : exec .finish s = .next (whenAccepting s (startPadding s)) := rfl

theorem writeCmd_of_command {w : BitVec 32} {i : Instr} (h : decode w = .command i) (s : State) :
    writeCmd w s = exec i s := by
  rw [writeCmd, h]

/-- R280: ERROR ignores every command but INIT. -/
theorem exec_of_error {i : Instr} {s : State} (hmode : s.mode = .error) (hinit : ∀ a, i ≠ .init a) :
    exec i s = .next s := by
  cases i with
  | nop => exact exec_nop s
  | init a => exact absurd rfl (hinit a)
  | push nb => rw [exec_push, whenAccepting_of_error hmode]
  | finish => rw [exec_finish, whenAccepting_of_error hmode]

/-- R280: ERROR ignores every word that is no INIT word. -/
theorem writeCmd_of_error {w : BitVec 32} {s : State} (hmode : s.mode = .error)
    (hinit : ∀ a, decode w ≠ .command (.init a)) : writeCmd w s = .next s := by
  cases hw : decode w with
  | command i =>
    rw [writeCmd_of_command hw]
    exact exec_of_error hmode fun a hi => hinit a (hi ▸ hw)
  | illegal why => rw [writeCmd_of_illegal hw, if_pos hmode]

/-- Settles O9: FINISH by STATE, then the dispatch of a CMD write. -/
theorem finishStartsPaddingOrRaises : Obligations.FinishStartsPaddingOrRaises := by
  intro s
  obtain ⟨huninit, hbusy, hdone, herror⟩ := raises_unless_accepting (exec_finish s)
  refine ⟨fun h => ?accept, huninit, hbusy, hdone, herror,
    fun w => ⟨writeCmd_of_error, fun hmode why hw => ?illegal, fun i hw _ => writeCmd_of_command hw s⟩⟩
  case accept =>
    refine ⟨startPadding s, ?_, by simp [SameBus]⟩
    rw [exec_finish, whenAccepting_of_accept h]
  case illegal =>
    exact ⟨raiseError .illegalCmd s, by rw [writeCmd_of_illegal hw, if_neg hmode], errorEntered_raiseError _ s⟩

end Sys2Proof.Machine
end

section
/-!
PROOFS. The engine's steps LOAD, EXPAND, ROUND, FOLD, MARK and ZFULL (46_sequencer.md R321 to R327): which step a busy
engine takes, the big-endian words LOAD forms, and the registers each step writes, element by element.
-/

namespace Sys2Proof.Machine

/-! ## The enabled step (R321) -/

theorem engineStep_of_busy {s : State} (hbusy : s.busy = true) : engineStep s = busyStep s := if_pos hbusy

theorem busy_of_busyFinal {s : State} (hmode : s.mode = .busyFinal) : s.busy = true := by simp [State.busy, hmode]

theorem engineStep_of_load {s : State} (hbusy : s.busy = true) (hcph : s.cph = .load) :
    engineStep s = .next (stepLoad s) := by
  rw [engineStep_of_busy hbusy, busyStep, hcph]

theorem engineStep_of_expand {s : State} (hbusy : s.busy = true) (hcph : s.cph = .expand) (hlo : 16 ≤ s.t.toNat)
    (hhi : s.t.toNat < rounds s.alg) : engineStep s = .next (stepExpand s) := by
  rw [engineStep_of_busy hbusy, busyStep, hcph]
  exact if_pos ⟨hlo, hhi⟩

theorem engineStep_of_round {s : State} (hbusy : s.busy = true) (hcph : s.cph = .round)
    (hhi : s.t.toNat < rounds s.alg) : engineStep s = .next (stepRound s) := by
  rw [engineStep_of_busy hbusy, busyStep, hcph]
  exact if_pos hhi

theorem engineStep_of_fold {s : State} (hbusy : s.busy = true) (hcph : s.cph = .fold) :
    engineStep s = .next (stepFold s) := by
  rw [engineStep_of_busy hbusy, busyStep, hcph]

/-- Between blocks of the padding the engine goes by PSTAGE. -/
theorem engineStep_of_padding {s : State} (hmode : s.mode = .busyFinal) (hcph : s.cph = .idle) :
    engineStep s = paddingStep s := by
  rw [engineStep_of_busy (busy_of_busyFinal hmode), busyStep, hcph]
  exact if_pos hmode

theorem paddingStep_of_mark {s : State} (hstage : s.pstage = .mark) (hfill : s.fill.toNat < blockBytes s.alg) :
    paddingStep s = .next (stepMark s) := by
  rw [paddingStep, hstage]
  exact if_pos hfill

theorem paddingStep_of_zfull {s : State} (hstage : s.pstage = .zfull) : paddingStep s = .next (stepZfull s) := by
  rw [paddingStep, hstage]

/-! ## The working state's words -/

/-- A write of the working state's words: NH of the eight registers take the new words. -/
theorem readAt_writeRange_stateWords (a : Alg) (x : Vector (BitVec 64) 8) (f : Nat → BitVec 64) {i : Nat}
    (h : i < stateWords a) : readAt (writeRange x 0 (stateWords a) f) i 0#64 = f i := by
  rw [readAt_writeRange, if_pos ⟨Nat.zero_le i, h, h.trans_le (stateWords_le a)⟩]

/-- The registers from NH up keep theirs. -/
theorem readAt_writeRange_above_stateWords (a : Alg) (x : Vector (BitVec 64) 8) (f : Nat → BitVec 64) {i : Nat}
    (h : stateWords a ≤ i) : readAt (writeRange x 0 (stateWords a) f) i 0#64 = readAt x i 0#64 := by
  rw [readAt_writeRange, if_neg (by omega)]

/-! ## LOAD -/

/-- A byte put in below the bits so far: one step of the big-endian value (00_scope.md R18). -/
theorem toNat_append_byte {n : Nat} (x : BitVec n) (b : BitVec 8) : (x ++ b).toNat = x.toNat * 256 + b.toNat := by
  rw [BitVec.toNat_append, ← Nat.shiftLeft_add_eq_or_of_lt b.isLt, Nat.shiftLeft_eq]

theorem beWord_four (byte : Nat → BitVec 8) (j : Nat) :
    beWord byte j 4 =
      (byte (4 * j) ++ byte (4 * j + 1) ++ byte (4 * j + 2) ++ byte (4 * j + 3)).setWidth 64 := by
  apply BitVec.eq_of_toNat_eq
  rw [beWord_toNat byte j 4 (by decide), BitVec.toNat_setWidth_of_le (by decide)]
  simp [toNat_append_byte, bigEndian_succ, bigEndian_zero, Nat.mul_comm j]

theorem beWord_eight (byte : Nat → BitVec 8) (j : Nat) :
    beWord byte j 8 =
      (byte (8 * j) ++ byte (8 * j + 1) ++ byte (8 * j + 2) ++ byte (8 * j + 3) ++ byte (8 * j + 4)
        ++ byte (8 * j + 5) ++ byte (8 * j + 6) ++ byte (8 * j + 7)).setWidth 64 := by
  apply BitVec.eq_of_toNat_eq
  rw [beWord_toNat byte j 8 (by decide), BitVec.toNat_setWidth_of_le (by decide)]
  simp [toNat_append_byte, bigEndian_succ, bigEndian_zero, Nat.mul_comm j]

theorem wordBytes_of_ne_sha512 {a : Alg} (h : a ≠ .sha512) : wordBytes a = 4 := by
  cases a with
  | sha1 => rfl
  | sha256 => rfl
  | sha512 => exact absurd rfl h

theorem wordBytes_sha512 : wordBytes .sha512 = 8 := rfl

section StepLoad
variable (s : State)

theorem readAt_stepLoad_sch {j : Nat} (h : j < 16) :
    readAt (stepLoad s).sch j 0#64 = beWord (fun k => readAt s.buf k 0#8) j (wordBytes s.alg) := by
  rw [stepLoad_sch, readAt_writeRange, if_pos (by omega)]

theorem readAt_stepLoad_sch_of_le {j : Nat} (h : 16 ≤ j) :
    readAt (stepLoad s).sch j 0#64 = readAt s.sch j 0#64 := by
  rw [stepLoad_sch, readAt_writeRange, if_neg (by omega)]

end StepLoad

/-- Settles O26: the words by the width of the algorithm's words, four or eight bytes; V and the frame. -/
theorem loadSegmentsTheBuffer : Obligations.LoadSegmentsTheBuffer := by
  intro s hbusy hcph
  refine ⟨stepLoad s, engineStep_of_load hbusy hcph, fun halg j hj => ?word32, fun halg j hj => ?word64,
    fun j hj => readAt_stepLoad_sch_of_le s hj, fun i hi => ?working, fun i hi => ?above, ?frame⟩
  case word32 => rw [readAt_stepLoad_sch s hj, wordBytes_of_ne_sha512 halg, beWord_four]
  case word64 => rw [readAt_stepLoad_sch s hj, halg, wordBytes_sha512, beWord_eight]
  case working => rw [stepLoad_v]; exact readAt_writeRange_stateWords s.alg _ _ hi
  case above => rw [stepLoad_v]; exact readAt_writeRange_above_stateWords s.alg _ _ hi
  case frame => simp [SameBus]

/-! ## EXPAND -/

/-- Below T the next index fits in the seven bits of t (10_state.md R42). -/
theorem ofNat_succ_toNat_of_lt_rounds {a : Alg} {n : Nat} (h : n < rounds a) :
    (BitVec.ofNat 7 (n + 1)).toNat = n + 1 := by
  have hT := rounds_le a
  rw [BitVec.toNat_ofNat, Nat.mod_eq_of_lt (by omega)]

/-- Settles O27: one word of S is written; t and CPH by whether it was the last. -/
theorem expandWritesOneScheduleWord : Obligations.ExpandWritesOneScheduleWord := by
  intro s hbusy hcph hlo hhi
  have hT := rounds_le s.alg
  refine ⟨stepExpand s, engineStep_of_expand hbusy hcph hlo hhi, ?word, fun j hj => ?others, fun hlast => ?last,
    fun hmore => ?more, ?frame⟩
  case word => rw [stepExpand_sch, readAt_writeAt, if_pos ⟨rfl, by omega⟩]
  case others => rw [stepExpand_sch, readAt_writeAt, if_neg (not_and_of_not_left _ hj)]
  case last =>
    rw [stepExpand_t, stepExpand_cph, if_pos hlast, if_pos hlast]
    exact ⟨rfl, rfl⟩
  case more =>
    rw [stepExpand_t, stepExpand_cph, if_neg hmore, if_neg hmore]
    exact ⟨ofNat_succ_toNat_of_lt_rounds hhi, rfl⟩
  case frame => simp [SameBus]

/-! ## ROUND -/

/-- Settles O28: the round's words in V below NH, the others kept, and t one further. -/
theorem roundWritesTheWorkingState : Obligations.RoundWritesTheWorkingState := by
  intro s hbusy hcph hhi
  refine ⟨stepRound s, engineStep_of_round hbusy hcph hhi, fun i hi => ?working, fun i hi => ?above, ?index,
    stepRound_cph s, ?frame⟩
  case working => rw [stepRound_v, roundStep]; exact readAt_writeRange_stateWords s.alg _ _ hi
  case above => rw [stepRound_v, roundStep]; exact readAt_writeRange_above_stateWords s.alg _ _ hi
  case index => rw [stepRound_t]; exact ofNat_succ_toNat_of_lt_rounds hhi
  case frame => simp [SameBus]

/-! ## FOLD -/

/-- The 32-bit sum of two registers' low halves is their sum modulo 2^32. -/
theorem zext64_addW_low32_toNat (h v : BitVec 64) :
    (zext64 (addW [low32 h, low32 v])).toNat = (h.toNat + v.toNat) % 2 ^ 32 := by
  rw [zext64_toNat, addW_pair_toNat, low32_toNat, low32_toNat, ← Nat.add_mod]

theorem foldWord_toNat (a : Alg) (h v : BitVec 64) :
    (foldWord a h v).toNat = (h.toNat + v.toNat) % 2 ^ wordBits a := by
  cases a with
  | sha1 => exact zext64_addW_low32_toNat h v
  | sha256 => exact zext64_addW_low32_toNat h v
  | sha512 => exact addW_pair_toNat h v

theorem readAt_foldHash (a : Alg) (h v : Vector (BitVec 64) 8) {i : Nat} (hi : i < stateWords a) :
    readAt (foldHash a h v) i 0#64 = foldWord a (readAt h i 0#64) (readAt v i 0#64) :=
  readAt_writeRange_stateWords a _ _ hi

theorem readAt_foldHash_above (a : Alg) (h v : Vector (BitVec 64) 8) {i : Nat} (hi : stateWords a ≤ i) :
    readAt (foldHash a h v) i 0#64 = readAt h i 0#64 :=
  readAt_writeRange_above_stateWords a _ _ hi

section AfterFold
variable {s : State}

/-- After a block of the message the engine accepts bytes again. -/
theorem stepFold_of_busyBlock (hmode : s.mode = .busyBlock) :
    (stepFold s).mode = .accept ∧ (stepFold s).pstage = s.pstage := by
  rw [stepFold_mode, stepFold_pstage, modeAfterFold, pstageAfterFold, if_pos hmode, if_pos hmode]
  exact ⟨rfl, rfl⟩

/-- After the first of two padding blocks the length field's block follows. -/
theorem stepFold_of_second (hmode : s.mode = .busyFinal) (hstage : s.pstage = .second) :
    (stepFold s).mode = .busyFinal ∧ (stepFold s).pstage = .len := by
  simp [modeAfterFold, pstageAfterFold, hmode, hstage]

/-- After the last block the digest stands. -/
theorem stepFold_of_last (hmode : s.mode = .busyFinal) (hstage : s.pstage = .last) :
    (stepFold s).mode = .done ∧ (stepFold s).pstage = .none := by
  simp [modeAfterFold, pstageAfterFold, hmode, hstage]

end AfterFold

/-- Settles O29: the sums word by word, then the three continuations and the frame. -/
theorem foldAddsTheWorkingState : Obligations.FoldAddsTheWorkingState := by
  intro s hbusy hcph
  refine ⟨stepFold s, engineStep_of_fold hbusy hcph, fun i hi => ?sum, fun i hi => ?above, stepFold_fill s,
    stepFold_cph s, stepFold_t s, stepFold_of_busyBlock, stepFold_of_second, stepFold_of_last, ?frame⟩
  case sum => rw [stepFold_h, readAt_foldHash _ _ _ hi, foldWord_toNat]
  case above => rw [stepFold_h, readAt_foldHash_above _ _ _ hi]
  case frame => simp [SameBus]

/-! ## MARK and ZFULL -/

/-- A byte count of at most a block fits in FILL (10_state.md R39). -/
theorem ofNat_toNat_of_le_blockBytes {a : Alg} {n : Nat} (h : n ≤ blockBytes a) : (BitVec.ofNat 8 n).toNat = n := by
  have hblock := blockBytes_le a
  rw [BitVec.toNat_ofNat, Nat.mod_eq_of_lt (by omega)]

/-- Settles O30: one byte of BUF is written, FILL counts it, and PSTAGE is the model's own case. -/
theorem markAppendsTheSetBit : Obligations.MarkAppendsTheSetBit := by
  intro s hmode hcph hstage hfill
  have hblock := blockBytes_le s.alg
  refine ⟨stepMark s, (engineStep_of_padding hmode hcph).trans (paddingStep_of_mark hstage hfill), ?mark,
    fun j hj => ?others, ?fill, stepMark_pstage s, ?frame⟩
  case mark => rw [stepMark_buf, readAt_writeAt, if_pos ⟨rfl, by omega⟩]
  case others => rw [stepMark_buf, readAt_writeAt, if_neg (not_and_of_not_left _ hj)]
  case fill => rw [stepMark_fill]; exact ofNat_toNat_of_le_blockBytes (Nat.succ_le_of_lt hfill)
  case frame => simp [SameBus]

/-- Settles O31: zeros from FILL to the block's end, and the compression of the block starts. -/
theorem zfullCompletesTheBlock : Obligations.ZfullCompletesTheBlock := by
  intro s hmode hcph hstage
  have hblock := blockBytes_le s.alg
  refine ⟨stepZfull s, (engineStep_of_padding hmode hcph).trans (paddingStep_of_zfull hstage),
    fun j hlo hhi => ?zeros, fun j hj => ?others, ?fill, ?frame⟩
  case zeros => rw [stepZfull_buf, readAt_writeRange, if_pos (by omega)]
  case others => rw [stepZfull_buf, readAt_writeRange, if_neg (by omega)]
  case fill => rw [stepZfull_fill]; exact ofNat_toNat_of_le_blockBytes le_rfl
  case frame => simp [SameBus]

end Sys2Proof.Machine
end

section
/-!
PROOFS. The errors (60_exceptions.md R362 to R365): a CMD write raises the error of the priority order and no other, an
error entry writes five registers, and ERROR is left by a legal INIT or a reset only.
-/

namespace Sys2Proof.Machine

/-! ## The words of the priority order -/

theorem mem_legalWords_iff (w : BitVec 32) : w ∈ legalWords ↔ ∃ i, decode w = .command i := by
  have hsame : legalWords.Perm (allCommands.map encode) := by decide
  rw [hsame.mem_iff, exists_command_iff_mem]

theorem encode_mem_legalWords (i : Instr) : encode i ∈ legalWords := (mem_legalWords_iff _).2 ⟨i, decode_encode i⟩

theorem encode_init_three : encode (.init 3#2) = 0x00000031#32 := by decide

theorem encode_init_mem_initWords (a : BitVec 2) : encode (.init a) ∈ initWords := by revert a; decide

theorem encode_push_mem_pushWords (nb : BitVec 2) : encode (.push nb) ∈ pushWords := by revert nb; decide

theorem mem_legalWords_of_mem_initWords {w : BitVec 32} (h : w ∈ initWords) : w ∈ legalWords :=
  List.mem_cons_of_mem _ (List.mem_cons_of_mem _ (List.mem_append_left _ h))

/-- The words that go by the case on STATE are legal and no INIT words. -/
theorem legal_of_pushOrFinish {w : BitVec 32} (h : pushOrFinish w = true) :
    w ∉ initWords ∧ w ∈ legalWords ∧ w ≠ 0x00000031#32 := by
  have hword : w = 0x00000002#32 ∨ w = 0x00000102#32 ∨ w = 0x00000202#32 ∨ w = 0x00000302#32 ∨ w = 0x00000003#32 := by
    simpa [pushOrFinish, pushWords, or_assoc] using h
  rcases hword with rfl | rfl | rfl | rfl | rfl <;> decide

theorem pushOrFinish_encode_push (nb : BitVec 2) : pushOrFinish (encode (.push nb)) = true := by revert nb; decide

/-- The byte count the order reads off a PUSH word is the one PUSH appends (30_encoding.md R103). -/
theorem encode_push_count (nb : BitVec 2) : (encode (.push nb)).toNat / 256 % 4 + 1 = pushCount nb := by
  rw [encode_push_toNat, pushCount]
  omega

/-! ## The priority order, word by word -/

/-- The order's case on STATE for PUSH and FINISH, with `accepted` the error in ACCEPT. -/
def errorUnlessAccepting (s : State) (accepted : Option ErrCode) : Option ErrCode :=
  match s.mode with
  | .uninit => some .notInit
  | .accept => accepted
  | .busyBlock => some .busy
  | .busyFinal => some .busy
  | .done => some .afterDone
  | .error => none

theorem errorByPriority_of_not_legal {w : BitVec 32} (h : w ∉ legalWords) (s : State) :
    errorByPriority w s = if s.mode = .error then none else some .illegalCmd := by
  have hinit : w ∉ initWords := fun hmem => h (mem_legalWords_of_mem_initWords hmem)
  simp [errorByPriority, h, hinit]

/-- A legal word that is neither PUSH nor FINISH is an error as 0x00000031 only. -/
theorem errorByPriority_of_not_pushOrFinish {w : BitVec 32} (hlegal : w ∈ legalWords) (h : pushOrFinish w = false)
    (halg : w ≠ 0x00000031#32) (s : State) : errorByPriority w s = none := by
  have hpush : w ∉ pushWords := by simp_all [pushOrFinish]
  simp [errorByPriority, hlegal, h, halg, hpush]

theorem errorByPriority_nop (s : State) : errorByPriority (encode .nop) s = none :=
  errorByPriority_of_not_pushOrFinish (encode_mem_legalWords _) (by decide) (by decide) s

theorem errorByPriority_init_field (a : Alg) (s : State) : errorByPriority (encode (.init a.field)) s = none :=
  errorByPriority_of_not_pushOrFinish (encode_mem_legalWords _) (by cases a <;> decide) (by cases a <;> decide) s

theorem errorByPriority_init_three (s : State) : errorByPriority 0x00000031#32 s = some .illegalAlg := by
  have hmem : 0x00000031#32 ∈ initWords := by decide
  simp [errorByPriority, hmem, mem_legalWords_of_mem_initWords hmem]

theorem errorByPriority_of_pushOrFinish {w : BitVec 32} (h : pushOrFinish w = true) (s : State) :
    errorByPriority w s = errorUnlessAccepting s
      (if w ∈ pushWords ∧ s.fill.toNat + (w.toNat / 256 % 4 + 1) > blockBytes s.alg then some .overrun else none) := by
  obtain ⟨hinit, hlegal, halg⟩ := legal_of_pushOrFinish h
  cases hmode : s.mode <;> simp [errorByPriority, errorUnlessAccepting, State.busy, h, hinit, hlegal, halg, hmode]

theorem errorByPriority_push (nb : BitVec 2) (s : State) :
    errorByPriority (encode (.push nb)) s = errorUnlessAccepting s
      (if s.fill.toNat + pushCount nb > blockBytes s.alg then some .overrun else none) := by
  simp only [errorByPriority_of_pushOrFinish (pushOrFinish_encode_push nb), encode_push_mem_pushWords,
    encode_push_count, true_and]

theorem errorByPriority_finish (s : State) : errorByPriority (encode .finish) s = errorUnlessAccepting s none := by
  have hpush : encode .finish ∉ pushWords := by decide
  rw [errorByPriority_of_pushOrFinish (by decide), if_neg (not_and_of_not_left _ hpush)]

/-- The order names errors only. -/
theorem errorByPriority_ne_noError (w : BitVec 32) (s : State) : errorByPriority w s ≠ some .noError := by
  unfold errorByPriority
  split_ifs <;> decide

/-! ## A CMD write raises the error of the order -/

/-- `t` is `s` after the error entry named, or, when none is named, after no error entry. -/
def RaisesExactly (e : Option ErrCode) (s t : State) : Prop :=
  match e with
  | some c => t = raiseError c s
  | none => t.mode = .error → t = s

theorem raisesExactly_of_mode_ne_error {s t : State} (h : t.mode ≠ .error) : RaisesExactly none s t :=
  fun herror => absurd herror h

/-- PUSH's and FINISH's case on STATE is the order's. -/
theorem raisesExactly_whenAccepting {s acc : State} {e : Option ErrCode}
    (h : s.mode = .accept → RaisesExactly e s acc) :
    RaisesExactly (errorUnlessAccepting s e) s (whenAccepting s acc) := by
  unfold errorUnlessAccepting whenAccepting
  cases hmode : s.mode with
  | accept => exact h hmode
  | error => exact fun _ => rfl
  | uninit => rfl
  | busyBlock => rfl
  | busyFinal => rfl
  | done => rfl

theorem startFullBlock_mode_ne_error {s : State} (h : s.mode = .accept) : (startFullBlock s).mode ≠ .error := by
  rw [startFullBlock_mode, h]
  split <;> decide

theorem exec_raisesExactly (i : Instr) (s : State) :
    ∃ t, exec i s = .next t ∧ RaisesExactly (errorByPriority (encode i) s) s t := by
  cases i with
  | nop => exact ⟨s, exec_nop s, by rw [errorByPriority_nop]; exact fun _ => rfl⟩
  | init x =>
    rcases field_cases x with rfl | ⟨a, rfl⟩
    · exact ⟨_, exec_init_three s, by rw [encode_init_three, errorByPriority_init_three]; rfl⟩
    · refine ⟨_, exec_init_field a s, ?_⟩
      rw [errorByPriority_init_field]
      exact raisesExactly_of_mode_ne_error (by simp)
  | push nb =>
    refine ⟨_, exec_push nb s, ?_⟩
    rw [errorByPriority_push]
    refine raisesExactly_whenAccepting fun hmode => ?_
    split
    case isTrue => rfl
    case isFalse =>
      exact raisesExactly_of_mode_ne_error (startFullBlock_mode_ne_error ((appendBytes_mode s _).trans hmode))
  | finish =>
    refine ⟨_, exec_finish s, ?_⟩
    rw [errorByPriority_finish]
    exact raisesExactly_whenAccepting fun _ => raisesExactly_of_mode_ne_error (by simp)

theorem writeCmd_raisesExactly (w : BitVec 32) (s : State) :
    ∃ t, writeCmd w s = .next t ∧ RaisesExactly (errorByPriority w s) s t := by
  cases hw : decode w with
  | command i =>
    rw [writeCmd_of_command hw, eq_encode_of_decode hw]
    exact exec_raisesExactly i s
  | illegal why =>
    have hlegal : w ∉ legalWords := by simp [mem_legalWords_iff, hw]
    refine ⟨_, writeCmd_of_illegal hw s, ?_⟩
    rw [errorByPriority_of_not_legal hlegal]
    split
    case isTrue => exact fun _ => rfl
    case isFalse => rfl

/-- Settles O13: the write raises exactly the order's error, and raising is the error entry. -/
theorem cmdWritesRaiseErrorsByPriority : Obligations.CmdWritesRaiseErrorsByPriority := by
  intro w s
  obtain ⟨t, hwrite, hraises⟩ := writeCmd_raisesExactly w s
  refine ⟨t, hwrite, ?_⟩
  cases hprio : errorByPriority w s with
  | none => rwa [hprio] at hraises
  | some c =>
    rw [hprio] at hraises
    obtain rfl : t = raiseError c s := hraises
    exact errorEntered_raiseError c s

/-! ## Error entry -/

theorem engineStep_of_not_busy {s : State} (h : s.busy = false) : engineStep s = .next s := by simp [engineStep, h]

theorem busy_of_error {s : State} (h : s.mode = .error) : s.busy = false := by simp [State.busy, h]

/-- A write that enters ERROR raised an error of the order; where the order names none, ERROR only stays. -/
theorem exists_raiseError_of_writeCmd {w : BitVec 32} {s t : State} (hwrite : writeCmd w s = .next t)
    (herror : t.mode = .error) (hentry : s.mode ≠ .error ∨ w = 0x00000031#32) :
    ∃ c, c ≠ .noError ∧ t = raiseError c s := by
  obtain ⟨t', hwrite', hraises⟩ := writeCmd_raisesExactly w s
  obtain rfl : t = t' := by simpa [hwrite] using hwrite'
  cases hprio : errorByPriority w s with
  | some c =>
    rw [hprio] at hraises
    exact ⟨c, fun hc => errorByPriority_ne_noError w s (hc ▸ hprio), hraises⟩
  | none =>
    rw [hprio] at hraises
    have hstay : t = s := hraises herror
    rcases hentry with hmode | rfl
    · exact absurd (hstay ▸ herror) hmode
    · rw [errorByPriority_init_three] at hprio
      cases hprio

/-- Settles O10: the state entered is an error entry's, and in ERROR the engine is not busy. -/
theorem errorEntryWritesFiveRegisters : Obligations.ErrorEntryWritesFiveRegisters := by
  intro w s t hwrite herror hentry
  obtain ⟨c, hc, rfl⟩ := exists_raiseError_of_writeCmd hwrite herror hentry
  rw [raiseError_errcode]
  exact ⟨errorEntered_raiseError c s, hc, engineStep_of_not_busy (busy_of_error herror)⟩

/-! ## In ERROR -/

/-- The fields of STATUS, read back from its sum (10_state.md R49). -/
theorem statusWord_fields (s : State) :
    (statusWord s).extractLsb' 0 3 = modeCode s.mode ∧ (statusWord s).extractLsb' 4 2 = algCode s.alg
      ∧ (statusWord s).extractLsb' 8 4 = errCode s.errcode ∧ (statusWord s).extractLsb' 16 8 = statusFill s := by
  refine ⟨?_, ?_, ?_, ?_⟩ <;> apply BitVec.eq_of_toNat_eq <;>
    rw [BitVec.extractLsb'_toNat, statusWord_toNat, Nat.shiftRight_eq_div_pow] <;> omega

theorem writeCmd_of_error_of_not_mem_initWords {w : BitVec 32} {s : State} (hmode : s.mode = .error)
    (hw : w ∉ initWords) : writeCmd w s = .next s :=
  writeCmd_of_error hmode fun a hdecode => hw (eq_encode_of_decode hdecode ▸ encode_init_mem_initWords a)

/-- Settles O11: the dispatch of a CMD write in ERROR, then STATUS by its fields and DIGEST outside DONE. -/
theorem errorStateIgnoresAllButInit : Obligations.ErrorStateIgnoresAllButInit := by
  intro s hmode
  obtain ⟨hstate, halg, herrcode, hfill⟩ := statusWord_fields s
  rw [readRegister_status]
  refine ⟨fun w hw => writeCmd_of_error_of_not_mem_initWords hmode hw, fun value => writeRegister_data value s,
    hstate.trans (congrArg modeCode hmode), halg, herrcode, hfill.trans ?fill, fun i _ => ?digest,
    engineStep_of_not_busy (busy_of_error hmode)⟩
  case fill => rw [statusFill, if_neg (by simp [hmode])]
  case digest => rw [readRegister_digest, digestWord_of_ne_done (by simp [hmode])]

/-! ## Leaving ERROR -/

theorem writeCmd_encode (i : Instr) (s : State) : writeCmd (encode i) s = exec i s :=
  writeCmd_of_command (decode_encode i) s

theorem writeCmd_init_three (s : State) : writeCmd 0x00000031#32 s = .next (raiseError .illegalAlg s) := by
  rw [← encode_init_three, writeCmd_encode, exec_init_three]

/-- STATE changes by a reset, by a busy engine's step or by a CMD write; every other step leaves it. -/
theorem event_of_mode_changed {s t : State} (hstep : step s = .next t) (hmode : t.mode ≠ s.mode) :
    nextEvent s = .reset ∨ (nextEvent s = .engineStep ∧ s.busy = true)
      ∨ ∃ w, nextEvent s = .command w ∧ writeCmd w (issued s) = .next t := by
  have hevent := step_by_event s
  rw [hstep] at hevent
  cases he : nextEvent s <;> simp only [he, Host.Outcome.next.injEq] at hevent
  case reset => exact .inl rfl
  case engineStep => exact .inr (.inl ⟨rfl, hevent.1⟩)
  case command w => exact .inr (.inr ⟨w, rfl, hevent.symm⟩)
  case idle => exact absurd (hevent ▸ turnTaken_mode s) hmode
  case dataWrite value => exact absurd (hevent ▸ writeData_mode (issued s) value) hmode
  case ignoredWrite off => exact absurd (hevent.2.2 ▸ issued_mode s) hmode
  case read off => exact absurd (hevent ▸ respond_mode (issued s) _) hmode
  case poll => exact absurd (hevent ▸ pollStatus_mode (turnTaken s) _) hmode
  case outsideRead => exact absurd (hevent ▸ respondFromPlatform_mode (issued s)) hmode
  case outsideWrite => exact absurd (hevent ▸ issued_mode s) hmode
  case violation => cases hevent

/-- A CMD write that leaves ERROR is a legal INIT word. -/
theorem legal_init_of_writeCmd_leaves_error {w : BitVec 32} {s t : State} (hmode : s.mode = .error)
    (hwrite : writeCmd w s = .next t) (hleft : t.mode ≠ .error) :
    w = 0x00000001#32 ∨ w = 0x00000011#32 ∨ w = 0x00000021#32 := by
  have hmem : w ∈ initWords := by
    by_contra hw
    rw [writeCmd_of_error_of_not_mem_initWords hmode hw] at hwrite
    cases hwrite
    exact hleft hmode
  have hlegal : w ≠ 0x00000031#32 := by
    rintro rfl
    rw [writeCmd_init_three] at hwrite
    cases hwrite
    exact hleft rfl
  simpa [initWords, hlegal] using hmem

/-- Settles O12: STATE changes by a reset, an engine step or a CMD write; in ERROR no engine step is enabled, and only a
legal INIT word leaves it. -/
theorem errorIsLeftByInitOrReset : Obligations.ErrorIsLeftByInitOrReset := by
  intro s hmode
  refine ⟨fun a w hw => ?init, ⟨_, writeCmd_init_three s, errorEntered_raiseError _ s⟩, fun t hstep hleft => ?exits⟩
  case init =>
    have hword : w = encode (.init a.field) := by rw [hw]; cases a <;> decide
    have hexec := exec_init_field a s
    exact ⟨_, by rw [hword, writeCmd_encode, hexec], hexec, startComputation_mode s a, startComputation_errcode s a⟩
  case exits =>
    rcases event_of_mode_changed hstep (by rwa [hmode]) with hreset | ⟨-, hbusy⟩ | ⟨w, hevent, hwrite⟩
    · exact .inl hreset
    · rw [busy_of_error hmode] at hbusy
      cases hbusy
    · rw [hevent]
      simpa using legal_init_of_writeCmd_leaves_error ((issued_mode s).trans hmode) hwrite hleft

end Sys2Proof.Machine
end

section
/-!
PROOFS. Decoding and encoding (30_encoding.md R104, R105), the assembler's expansions (R109, R110), the parameter
table (00_scope.md R11) and the constant tables (41_constants.md R171 to R177).
-/

namespace Sys2Proof.Machine

/-- Settles O3: the decoder inverts the encoder, and a word that decodes to a command is its encoding. -/
theorem decodeAndEncodeAgree : Obligations.DecodeAndEncodeAgree := decode_eq_command_iff

/-- Settles O1: each of the ten words is the encoding of its command. -/
theorem decodesTheTenLegalWords : Obligations.DecodesTheTenLegalWords :=
  ⟨decode_encode .nop, decode_encode .finish, decode_encode (.init 0#2), decode_encode (.init 1#2),
    decode_encode (.init 2#2), decode_encode (.init 3#2), decode_encode (.push 0#2), decode_encode (.push 1#2),
    decode_encode (.push 2#2), decode_encode (.push 3#2)⟩

/-- Settles O60: each variant's row of the table. -/
theorem parametersOfTheVariants : Obligations.ParametersOfTheVariants := by
  intro a
  cases a <;> rfl

/-! ## The assembler -/

/-- The word of `PUSH n` is the PUSH command that takes n bytes (R103, R109). -/
theorem pushWord_pushCount (nb : BitVec 2) : pushWord (pushCount nb) = encode (.push nb) := by
  revert nb; decide

theorem exists_pushCount_eq {n : Nat} (hlo : 1 ≤ n) (hhi : n ≤ 4) : ∃ nb : BitVec 2, pushCount nb = n := by
  refine ⟨BitVec.ofNat 2 (n - 1), ?_⟩
  rw [pushCount, BitVec.toNat_ofNat]
  omega

theorem toNat_append_zero {n : Nat} (x : BitVec n) (k : Nat) : (x ++ 0#k).toNat = x.toNat * 2 ^ k := by
  simp [BitVec.toNat_append, Nat.shiftLeft_eq]

/-- The bytes PUSHT takes stand in DATA from the most significant on (R110). -/
theorem tailWord_toNat (tail : List (BitVec 8)) :
    (tailWord tail).toNat =
      (tail.getD 0 0#8).toNat * 2 ^ 24 + (tail.getD 1 0#8).toNat * 2 ^ 16 + (tail.getD 2 0#8).toNat * 2 ^ 8 := by
  rw [tailWord, BitVec.toNat_ofNat, Nat.mod_eq_of_lt (by omega)]

theorem tailWord_one (b0 : BitVec 8) : tailWord [b0] = b0 ++ 0#24 :=
  BitVec.eq_of_toNat_eq (by rw [tailWord_toNat, toNat_append_zero]; simp)

theorem tailWord_two (b0 b1 : BitVec 8) : tailWord [b0, b1] = b0 ++ b1 ++ 0#16 :=
  BitVec.eq_of_toNat_eq (by rw [tailWord_toNat, toNat_append_zero, toNat_append_byte]; simp; omega)

theorem tailWord_three (b0 b1 b2 : BitVec 8) : tailWord [b0, b1, b2] = b0 ++ b1 ++ b2 ++ 0#8 :=
  BitVec.eq_of_toNat_eq (by rw [tailWord_toNat, toNat_append_zero, toNat_append_byte, toNat_append_byte]; simp; omega)

theorem expandAsm_pusht (base : Nat) (tail : List (BitVec 8)) :
    expandAsm base (.pusht tail) =
      [.write (base + 0x04) 4 (tailWord tail), .write base 4 (pushWord tail.length)] := rfl

/-- Settles O23: the tables' rows; PUSH by its byte count, PUSHT by the bytes it writes to DATA. -/
theorem assemblerExpansions : Obligations.AssemblerExpansions := by
  intro base imm b0 b1 b2
  refine ⟨rfl, rfl, rfl, rfl, rfl, rfl, fun i => ⟨?wrDigest, ?rdDigest⟩, rfl, rfl, rfl, rfl,
    fun n hlo hhi => ?push, rfl, rfl, rfl, ?pusht1, ?pusht2, ?pusht3, rfl, fun k => ⟨?count, fun i hi => ?registers⟩⟩
  case wrDigest => simp [expandAsm, asmWrite, regOffset, Nat.add_assoc]
  case rdDigest => simp [expandAsm, asmRead, regOffset, Nat.add_assoc]
  case push =>
    obtain ⟨nb, rfl⟩ := exists_pushCount_eq hlo hhi
    exact ⟨nb, rfl, by rw [expandAsm, pushWord_pushCount]; rfl⟩
  case pusht1 => rw [expandAsm_pusht, tailWord_one]; simp [pushWord]
  case pusht2 => rw [expandAsm_pusht, tailWord_two]; simp [pushWord]
  case pusht3 => rw [expandAsm_pusht, tailWord_three]; simp [pushWord]
  case count => simp [expandAsm]
  case registers => simp [expandAsm, hi]

/-! ## The constant tables -/

/-- Settles O38: q is the integer part of the root, so that q and the table's fraction together are the root rounded
down; this is evaluated for each entry. -/
theorem constantTablesAreRootsOfPrimes : Obligations.ConstantTablesAreRootsOfPrimes := by
  unfold Obligations.ConstantTablesAreRootsOfPrimes
  intro primes
  refine ⟨rfl, rfl, rfl, rfl, rfl, rfl, fun i => ⟨rfl, rfl, rfl⟩, readAt_initialHash, ?k256, ?k512, ?h256, ?h512⟩
  case k256 => decide +kernel
  case k512 => decide +kernel
  case h256 => decide +kernel
  case h512 => decide +kernel

end Sys2Proof.Machine
end

section
/-!
PROOFS. What one step can do (10_state.md R30; 46_sequencer.md R320; 60_exceptions.md R362), said once as a relation,
and the facts about single steps that follow: who raises errors, which steps write which register (10_state.md section
2), and what keeps the digest (70_reset_and_hazards.md R394).
-/

namespace Sys2Proof.Machine

/-! ## The transitions -/

/-- What a step that completes does: `Transition s t`, one constructor per kind of change to the engine. -/
inductive Transition (s : State) : State → Prop where
  | reset : nextEvent s = .reset → Transition s (applyReset (turnTaken s))
  | engine {t : State} : nextEvent s = .engineStep → s.busy = true → busyStep (turnTaken s) = .next t → Transition s t
  | error {w : BitVec 32} {c : ErrCode} : nextEvent s = .command w → c ≠ .noError →
      Transition s (raiseError c (issued s))
  | init (a : Alg) : nextEvent s = .command (encode (.init a.field)) → Transition s (startComputation a (issued s))
  | push {nb : BitVec 2} : nextEvent s = .command (encode (.push nb)) → s.mode = .accept →
      s.fill.toNat + pushCount nb ≤ blockBytes s.alg →
      Transition s (startFullBlock (appendBytes (pushCount nb) (issued s)))
  | finish : nextEvent s = .command (encode .finish) → s.mode = .accept → Transition s (startPadding (issued s))
  | dataWrite {value : BitVec 32} : nextEvent s = .dataWrite value → Transition s (writeData value (issued s))
  /-- Every other step leaves the engine's registers as they are. -/
  | unchanged {t : State} : nextEvent s ≠ .reset → nextEvent s ≠ .engineStep → SameEngine s t →
      t.engineBase = s.engineBase → Transition s t

/-- What a CMD write does to the state it is issued on. -/
theorem writeCmd_cases {w : BitVec 32} {s t : State} (h : writeCmd w s = .next t) :
    t = s
    ∨ (∃ c, c ≠ ErrCode.noError ∧ t = raiseError c s)
    ∨ (∃ a : Alg, w = encode (.init a.field) ∧ t = startComputation a s)
    ∨ (∃ nb, w = encode (.push nb) ∧ s.mode = .accept ∧ s.fill.toNat + pushCount nb ≤ blockBytes s.alg
        ∧ t = startFullBlock (appendBytes (pushCount nb) s))
    ∨ (w = encode .finish ∧ s.mode = .accept ∧ t = startPadding s) := by
  cases hw : decode w with
  | illegal why =>
    rw [writeCmd_of_illegal hw, Host.Outcome.next.injEq] at h
    split at h
    · exact .inl h.symm
    · exact .inr (.inl ⟨.illegalCmd, by decide, h.symm⟩)
  | command i =>
    obtain rfl := eq_encode_of_decode hw
    rw [writeCmd_encode] at h
    rcases exec_cases i s with e | ⟨c, hc, e⟩ | ⟨a, rfl, e⟩ | ⟨nb, rfl, hmode, hroom, e⟩ | ⟨rfl, hmode, e⟩ <;>
      rw [e, Host.Outcome.next.injEq] at h
    · exact .inl h.symm
    · exact .inr (.inl ⟨c, hc, h.symm⟩)
    · exact .inr (.inr (.inl ⟨a, rfl, h.symm⟩))
    · exact .inr (.inr (.inr (.inl ⟨nb, rfl, hmode, hroom, h.symm⟩)))
    · exact .inr (.inr (.inr (.inr ⟨rfl, hmode, h.symm⟩)))

theorem sameEngine_turnTaken (s : State) : SameEngine s (turnTaken s) := by simp [SameEngine]

theorem transition_of_writeCmd {w : BitVec 32} {s t : State} (hevent : nextEvent s = .command w)
    (hwrite : writeCmd w (issued s) = .next t) : Transition s t := by
  rcases writeCmd_cases hwrite with rfl | ⟨c, hc, rfl⟩ | ⟨a, rfl, rfl⟩ | ⟨nb, rfl, hmode, hroom, rfl⟩ |
    ⟨rfl, hmode, rfl⟩
  · exact .unchanged (by simp [hevent]) (by simp [hevent]) (sameEngine_issued s) (issued_engineBase s)
  · exact .error hevent hc
  · exact .init a hevent
  · exact .push hevent hmode hroom
  · exact .finish hevent hmode

theorem transition_of_step {s t : State} (hstep : step s = .next t) : Transition s t := by
  have hevent := step_by_event s
  rw [hstep] at hevent
  cases he : nextEvent s <;> simp only [he, Host.Outcome.next.injEq, reduceCtorEq] at hevent
  case reset => exact hevent ▸ .reset he
  case engineStep => exact .engine he hevent.1 hevent.2.symm
  case command w => exact transition_of_writeCmd he hevent.symm
  case dataWrite value => exact hevent ▸ .dataWrite he
  case idle | ignoredWrite | read | poll | outsideRead | outsideWrite =>
    exact .unchanged (by simp [he]) (by simp [he]) (by simp [hevent, SameEngine]) (by simp [hevent])

/-! ## Who enters ERROR -/

theorem busy_iff (s : State) : s.busy = true ↔ s.mode = .busyBlock ∨ s.mode = .busyFinal := by simp [State.busy]

theorem modeAfterFold_cases (s : State) :
    modeAfterFold s = .accept ∨ modeAfterFold s = .done ∨ modeAfterFold s = s.mode := by
  unfold modeAfterFold
  split_ifs <;> simp

/-- An engine step leaves STATE or goes on to ACCEPT or DONE. -/
theorem busyStep_mode_cases {s t : State} (h : busyStep s = .next t) :
    t.mode = .accept ∨ t.mode = .done ∨ t.mode = s.mode := by
  rcases busyStep_cases s t h with ⟨-, rfl⟩ | ⟨-, -, -, rfl⟩ | ⟨-, -, rfl⟩ | ⟨-, rfl⟩ | ⟨-, -, -, -, rfl⟩ |
    ⟨-, -, -, rfl⟩ | ⟨-, -, -, rfl⟩
  case inr.inr.inr.inl => exact modeAfterFold_cases s
  all_goals simp

/-- Settles O14: of the transitions only the error entry of a CMD write enters ERROR. -/
theorem onlyCmdWritesRaiseErrors : Obligations.OnlyCmdWritesRaiseErrors := by
  intro s t hstep hmode herror
  cases transition_of_step hstep with
  | error hevent hc => exact ⟨_, hevent, by simpa using hc⟩
  | reset | init | finish => simp at herror
  | dataWrite => exact absurd herror (by simpa using hmode)
  | unchanged _ _ hsame =>
    obtain ⟨hmode', -⟩ := hsame
    exact absurd (hmode' ▸ herror) hmode
  | push _ haccept => exact absurd herror (startFullBlock_mode_ne_error (by simpa using haccept))
  | engine _ _ hstep =>
    rcases busyStep_mode_cases hstep with h | h | h <;> simp_all

/-! ## Who writes which register -/

/-- Settles O55: of the transitions only the DATA write and the reset have another DATA. -/
theorem onlyTheHostWritesData : Obligations.OnlyTheHostWritesData := by
  intro s t hstep hchanged
  cases transition_of_step hstep with
  | dataWrite hevent => exact .inl (by simpa using hevent)
  | reset hevent => exact .inr ⟨hevent, applyReset_data _⟩
  | engine _ _ hstep =>
    obtain ⟨-, hdata, -⟩ := busyStep_frame _ _ hstep
    exact absurd hdata (by simpa using hchanged)
  | unchanged _ _ hsame =>
    obtain ⟨-, -, -, hdata, -⟩ := hsame
    exact absurd hdata hchanged
  | error | init | push | finish => simp at hchanged

/-- Settles O56: of the transitions only the start of a computation and the reset have another ALG. -/
theorem onlyInitAndResetWriteAlg : Obligations.OnlyInitAndResetWriteAlg := by
  intro s t hstep hchanged
  cases transition_of_step hstep with
  | init a hevent => exact .inl (by simpa using hevent)
  | reset hevent => exact .inr ⟨hevent, applyReset_alg _⟩
  | engine _ _ hstep =>
    obtain ⟨-, -, halg, -⟩ := busyStep_frame _ _ hstep
    exact absurd halg (by simpa using hchanged)
  | unchanged _ _ hsame =>
    obtain ⟨-, halg, -⟩ := hsame
    exact absurd halg hchanged
  | error | push | finish | dataWrite => simp at hchanged

/-- Of the engine's steps only FOLD writes H. -/
theorem fold_of_busyStep_h_changed {s t : State} (h : busyStep s = .next t) (hchanged : t.h ≠ s.h) :
    s.cph = .fold := by
  rcases busyStep_cases s t h with ⟨-, rfl⟩ | ⟨-, -, -, rfl⟩ | ⟨-, -, rfl⟩ | ⟨hcph, -⟩ | ⟨-, -, -, -, rfl⟩ |
    ⟨-, -, -, rfl⟩ | ⟨-, -, -, rfl⟩
  case inr.inr.inr.inl => exact hcph
  all_goals simp at hchanged

/-- Settles O57: of the transitions only the start of a computation, FOLD and the reset have another H. -/
theorem onlyInitFoldAndResetWriteHash : Obligations.OnlyInitFoldAndResetWriteHash := by
  intro s t hstep hchanged
  cases transition_of_step hstep with
  | init a hevent => exact .inl ⟨a, hevent⟩
  | engine hevent _ hstep =>
    have hcph : (turnTaken s).cph = .fold := fold_of_busyStep_h_changed hstep hchanged
    exact .inr (.inl ⟨hevent, hcph⟩)
  | reset hevent => exact .inr (.inr hevent)
  | unchanged _ _ hsame =>
    obtain ⟨-, -, -, -, hh, -⟩ := hsame
    exact absurd hh hchanged
  | error | push | finish | dataWrite => simp at hchanged

/-- Which of V, S and BUF an engine step writes, by CPH and PSTAGE; none writes MLEN. -/
theorem busyStep_block_storage {s t : State} (h : busyStep s = .next t) :
    (t.v ≠ s.v → s.cph = .load ∨ s.cph = .round)
    ∧ (t.sch ≠ s.sch → s.cph = .load ∨ s.cph = .expand)
    ∧ (t.buf ≠ s.buf → s.cph = .idle ∧ (s.pstage = .mark ∨ s.pstage = .zfull ∨ s.pstage = .len))
    ∧ t.mlen = s.mlen := by
  rcases busyStep_cases s t h with ⟨hcph, rfl⟩ | ⟨hcph, -, -, rfl⟩ | ⟨hcph, -, rfl⟩ | ⟨hcph, rfl⟩ |
    ⟨hcph, -, hstage, -, rfl⟩ | ⟨hcph, -, hstage, rfl⟩ | ⟨hcph, -, hstage, rfl⟩ <;> simp [*]

/-- Settles O58: of the transitions other than reset, the engine's by the step it takes, PUSH and INIT. -/
theorem blockStorageWriters : Obligations.BlockStorageWriters := by
  intro s t hstep hreset
  cases transition_of_step hstep with
  | reset hevent => exact absurd hevent hreset
  | engine hevent _ hstep =>
    obtain ⟨hv, hsch, hbuf, hmlen⟩ := busyStep_block_storage hstep
    exact ⟨fun h => ⟨hevent, hv h⟩, fun h => ⟨hevent, hsch h⟩, fun h => .inr ⟨hevent, hbuf h⟩, fun h => absurd hmlen h⟩
  | push hevent => exact ⟨by simp, by simp, fun _ => .inl ⟨_, hevent⟩, fun _ => .inl ⟨_, hevent⟩⟩
  | init a hevent => exact ⟨by simp, by simp, by simp, fun _ => .inr ⟨a, hevent⟩⟩
  | unchanged _ _ hsame =>
    obtain ⟨-, -, -, -, -, hv, hsch, hbuf, -, hmlen, -⟩ := hsame
    exact ⟨absurd hv, absurd hsch, absurd hbuf, absurd hmlen⟩
  | error | finish | dataWrite => simp

/-! ## The digest in DONE -/

/-- DIGEST reads STATE, ALG and H. -/
theorem digestWord_congr {s t : State} (hmode : t.mode = s.mode) (halg : t.alg = s.alg) (hh : t.h = s.h) (i : Nat) :
    digestWord t i = digestWord s i := by
  simp only [digestWord, hmode, halg, hh]

/-- Settles O59: in DONE no engine step is enabled, and of the other transitions only those of a CMD write and of a
reset write STATE, ALG or H. -/
theorem digestIsStableWhileDone : Obligations.DigestIsStableWhileDone := by
  intro s t hdone hstep hreset hcommand
  cases transition_of_step hstep with
  | reset hevent => exact absurd hevent hreset
  | engine _ hbusy => simp [State.busy, hdone] at hbusy
  | error hevent | init _ hevent | push hevent | finish hevent => exact absurd hevent (hcommand _)
  | dataWrite => exact ⟨by simpa using hdone, digestWord_congr (by simp) (by simp) (by simp)⟩
  | unchanged _ _ hsame =>
    obtain ⟨hmode, halg, -, -, hh, -⟩ := hsame
    exact ⟨hmode.trans hdone, digestWord_congr hmode halg hh⟩

end Sys2Proof.Machine
end

section
/-!
PROOFS. The host's step by its pending operation (20_memory.md R70, R76, R77; 30_encoding.md R110; 45_host_commands.md
R280) and the platform's reset (70_reset_and_hazards.md R390).
-/

namespace Sys2Proof.Machine

/-! ## A CMD write -/

theorem hostMoves_withFetchWord (s : State) (n w : Nat) : HostMoves (s.withFetchWord n w) := .inl rfl

theorem host_withFetchWord (s : State) (w : BitVec 32) :
    (s.withFetchWord 32 w.toNat).host = .write (s.engineBase + 0x00) 4 w :: s.host := by
  simp [State.withFetchWord, Nat.mod_eq_of_lt w.isLt]

/-- Issuing the operation that withFetchWord placed gives the state back. -/
theorem issued_withFetchWord (s : State) (n w : Nat) : issued (s.withFetchWord n w) = s := rfl

/-- When the host moves, its write of a word to CMD is the write's whole effect on the state with it issued. -/
theorem step_of_cmd_write {s : State} {w : BitVec 32} {rest : List HostOp} (hbase : s.engineBase % 128 = 0)
    (hmoves : HostMoves s) (hhost : s.host = .write s.engineBase 4 w :: rest) : step s = writeCmd w (issued s) :=
  step_of_write (off := 0x00) hbase (by decide) (by decide) hmoves hhost

/-- Settles O5: the step is the CMD write, whose case on the decoder is R280's. -/
theorem stepRunsTheDecodedCommand : Obligations.StepRunsTheDecodedCommand := by
  intro s hbase
  refine ⟨fun w rest hmoves hhost => ?write, fun w i hw => ?fetched⟩
  case write =>
    rw [step_of_cmd_write hbase hmoves hhost]
    exact ⟨fun i hw => writeCmd_of_command hw _, fun why hw => by rw [writeCmd, hw]⟩
  case fetched =>
    have hstep := step_of_cmd_write (s := s.withFetchWord 32 w.toNat) hbase (hostMoves_withFetchWord s _ _)
      (host_withFetchWord s w)
    rw [hstep, issued_withFetchWord, writeCmd_of_command hw]

/-! ## Accesses by the byte they reach -/

theorem busTarget_of_outside {base addr width : Nat} (h : addr + width ≤ base ∨ base + 128 ≤ addr) :
    busTarget base addr width = .outside := if_pos h

/-- An access that touches the window without the protocol's width and alignment is a violation (R77). -/
theorem busTarget_of_violation {base addr width : Nat} (hlo : base < addr + width) (hhi : addr < base + 128)
    (h : width ≠ 4 ∨ addr % 4 ≠ 0) : busTarget base addr width = .violation := by
  unfold busTarget windowBytes
  rw [if_neg (by omega), if_neg (by omega)]

/-- Settles O20: the decoder answers a violation, and reads and writes are refused alike. -/
theorem accessesOutsideTheProtocolAreRefused : Obligations.AccessesOutsideTheProtocolAreRefused := by
  intro s addr width value rest _ hlo hhi hbad hmoves hhost
  have htarget : busTarget (issued s).engineBase addr width = .violation := busTarget_of_violation hlo hhi hbad
  rw [step_eq_hostTurn hmoves]
  rcases hhost with hread | hwrite
  · rw [hostTurn_of_read hread, hostRead, htarget]
  · rw [hostTurn_of_write hwrite, hostWrite, htarget]

/-- Settles O21: the decoder answers that no register is reached; a read returns the platform's value, a write only
leaves the queue. -/
theorem accessesElsewhereLeaveTheEngineAlone : Obligations.AccessesElsewhereLeaveTheEngineAlone := by
  intro s addr width value rest haway hmoves hhost
  have htarget : busTarget (issued s).engineBase addr width = .outside := busTarget_of_outside haway
  rw [step_eq_hostTurn hmoves]
  rcases hhost with hread | hwrite
  · rw [hostTurn_of_read hread, hostRead, htarget]
    exact ⟨_, rfl, by simp [SameEngine, hread]⟩
  · rw [hostTurn_of_write hwrite, hostWrite, htarget]
    exact ⟨_, rfl, by simp [SameEngine, hwrite]⟩

/-! ## WAIT -/

/-- STATUS shows a busy state exactly when the engine is busy (20_memory.md R86). -/
theorem showsBusy_statusWord (s : State) : showsBusy (statusWord s) = s.busy := by
  obtain ⟨hmode, -⟩ := statusWord_fields s
  rw [showsBusy, hmode, State.busy]
  cases s.mode <;> rfl

theorem step_of_wait {s : State} {rest : List HostOp} (hmoves : HostMoves s) (hhost : s.host = .wait :: rest) :
    step s = .next (pollStatus rest (turnTaken s)) := by
  rw [step_eq_hostTurn hmoves, hostTurn, turnTaken_host, hhost]

theorem statusWord_turnTaken (s : State) : statusWord (turnTaken s) = statusWord s := rfl

/-- Settles O22: the step is one poll, and STATUS shows whether the engine is busy. -/
theorem waitPollsStatus : Obligations.WaitPollsStatus := by
  intro s rest hmoves hhost
  refine ⟨_, step_of_wait hmoves hhost, ?_⟩
  simp [SameEngine, statusWord_turnTaken, showsBusy_statusWord]

/-! ## Reset -/

theorem step_of_platform {s : State} {rest : List Agent} (h : s.turns = .platform :: rest) :
    step s = .next (applyReset (turnTaken s)) := by
  rw [step, h, ← turnTaken_eq s h]

/-- A state with the table's values reads as 0 everywhere in the window (10_state.md R51). -/
theorem readRegister_of_uninit {s : State} (hmode : s.mode = .uninit) (halg : s.alg = .sha1)
    (herrcode : s.errcode = .noError) (hdata : s.data = 0#32) :
    readRegister 0x08 s = 0#32 ∧ readRegister 0x04 s = 0#32 ∧ readRegister 0x00 s = 0#32
      ∧ ∀ i, i < 16 → readRegister (0x40 + 4 * i) s = 0#32 := by
  refine ⟨?status, hdata, readRegister_cmd s, fun i _ => ?digest⟩
  case status =>
    simp [readRegister_status, statusWord, statusFill, modeCode, algCode, errCode, hmode, halg, herrcode]
  case digest => rw [readRegister_digest, digestWord_of_ne_done (by simp [hmode])]

/-- No CMD write leads to UNINIT. -/
theorem uninit_of_writeCmd {w : BitVec 32} {s t : State} (hwrite : writeCmd w s = .next t) (ht : t.mode = .uninit) :
    s.mode = .uninit := by
  rcases writeCmd_cases hwrite with rfl | ⟨c, -, rfl⟩ | ⟨a, -, rfl⟩ | ⟨nb, -, hmode, -, rfl⟩ | ⟨-, -, rfl⟩
  · exact ht
  · simp at ht
  · simp at ht
  · rw [startFullBlock_mode, appendBytes_mode, hmode] at ht
    split at ht <;> cases ht
  · simp at ht

/-- Settles O24: the reset's own values, the reads they give, and the transitions of a CMD write. -/
theorem platformResetPutsTheTableValues : Obligations.PlatformResetPutsTheTableValues := by
  refine ⟨fun s rest hturns => ⟨_, step_of_platform hturns, ?_⟩, fun w s t => uninit_of_writeCmd⟩
  obtain ⟨hstatus, hdata, hcmd, hdigest⟩ := readRegister_of_uninit (applyReset_mode (turnTaken s))
    (applyReset_alg _) (applyReset_errcode _) (applyReset_data _)
  have hidle : engineStep (applyReset (turnTaken s)) = .next (applyReset (turnTaken s)) :=
    engineStep_of_not_busy (by simp [State.busy])
  exact ⟨applyReset_mode _, applyReset_alg _, applyReset_errcode _, applyReset_data _, applyReset_fill _,
    applyReset_cph _, applyReset_t _, applyReset_pstage _, applyReset_engineBase _, applyReset_host _,
    by simp [hturns], applyReset_responses _, hstatus, hdata, hcmd, hdigest, hidle⟩

/-- Settles O25: the fields of State.reset, the reads they give, and a host's turn with nothing pending. -/
theorem resetStateHoldsTheTable : Obligations.ResetStateHoldsTheTable := by
  obtain ⟨hstatus, hdata, -, hdigest⟩ := readRegister_of_uninit (s := State.reset) rfl rfl rfl rfl
  exact ⟨rfl, rfl, rfl, rfl, rfl, rfl, rfl, rfl, hstatus, hdata, hdigest, rfl⟩

end Sys2Proof.Machine
end

section
/-!
PROOFS. The value invariants (10_state.md R44): every operation keeps them, so every transition does, and a state that
meets them is never stuck (46_sequencer.md R320, R321).
-/

namespace Sys2Proof.Machine

/-! ## The words of H, V and S -/

/-- A register holds a W-bit word (10_state.md R35 to R37). -/
def IsWord (a : Alg) (x : BitVec 64) : Prop := x.toNat < 2 ^ wordBits a

theorem isWord_zext64 {a : Alg} (x : BitVec 32) : IsWord a (zext64 x) := by
  have hW : 2 ^ 32 ≤ 2 ^ wordBits a := Nat.pow_le_pow_right (by decide) (by cases a <;> decide)
  rw [IsWord, zext64_toNat]
  exact x.isLt.trans_le hW

theorem isWord_sha512 (x : BitVec 64) : IsWord .sha512 x := x.isLt

theorem isWord_initialWord (a : Alg) (i : Nat) : IsWord a (initialWord a i) := by
  cases a with
  | sha1 => exact isWord_zext64 _
  | sha256 => exact isWord_zext64 _
  | sha512 => exact isWord_sha512 _

theorem isWord_beWord (a : Alg) (byte : Nat → BitVec 8) (i : Nat) : IsWord a (beWord byte i (wordBytes a)) := by
  have hwidth : wordBytes a ≤ 8 := by cases a <;> decide
  have hpow : 256 ^ wordBytes a = 2 ^ wordBits a := by cases a <;> rfl
  rw [IsWord, beWord_toNat _ _ _ hwidth, ← hpow]
  exact bigEndian_lt _ _

theorem isWord_expandWord (a : Alg) (s : Nat → BitVec 64) (t : Nat) : IsWord a (expandWord a s t) := by
  cases a with
  | sha1 => exact isWord_zext64 _
  | sha256 => exact isWord_zext64 _
  | sha512 => exact isWord_sha512 _

theorem isWord_foldWord (a : Alg) (h v : BitVec 64) : IsWord a (foldWord a h v) := by
  rw [IsWord, foldWord_toNat]
  exact Nat.mod_lt _ (Nat.two_pow_pos _)

theorem isWord_getD_map_zext64 {a : Alg} (xs : List (BitVec 32)) (i : Nat) :
    IsWord a ((xs.map zext64).getD i 0#64) := by
  have hmap : (xs.map zext64).getD i (zext64 0#32) = zext64 (xs.getD i 0#32) := List.getD_map xs 0#32 zext64
  exact hmap ▸ isWord_zext64 (xs.getD i 0#32)

theorem isWord_roundWords (a : Alg) (t : Nat) (s : BitVec 64) (v : Nat → BitVec 64) (i : Nat) :
    IsWord a ((roundWords a t s v).getD i 0#64) := by
  cases a with
  | sha1 => exact isWord_getD_map_zext64 _ i
  | sha256 => exact isWord_getD_map_zext64 _ i
  | sha512 => exact isWord_sha512 _

/-! ## States at rest -/

/-- A state that is not busy and whose sequencer is cleared meets the invariant when its FILL, ERRCODE, H and MLEN do.
-/
theorem inv_of_rest {s : State} (hbase : s.engineBase % 128 = 0) (hbusy : s.busy = false) (hcph : s.cph = .idle)
    (ht : s.t = 0#7) (hstage : s.pstage = .none) (hfill : s.fill.toNat ≤ blockBytes s.alg)
    (herrcode : s.errcode = .noError ↔ s.mode ≠ .error) (huninit : s.mode = .uninit → s.alg = .sha1 ∧ s.fill = 0#8)
    (hroom : s.mode = .accept → s.fill.toNat < blockBytes s.alg)
    (hh : s.mode.active = true → ∀ i, i < 8 →
      IsWord s.alg (readAt s.h i 0#64) ∧ (stateWords s.alg ≤ i → readAt s.h i 0#64 = 0#64))
    (hmlen : s.mode.active = true → s.mlen.toNat < 2 ^ lenBits s.alg) : Inv s where
  base_aligned := hbase
  fill_le := hfill
  errcode_iff := herrcode
  uninit_fresh := huninit
  idle_unless_busy _ := ⟨hcph, ht, hstage⟩
  busyBlock_stage h := by simp [State.busy, h] at hbusy
  busyFinal_idle h := by simp [State.busy, h] at hbusy
  busyFinal_block h := by simp [State.busy, h] at hbusy
  full_block h := absurd hcph h
  accept_room := hroom
  mark_room h := by simp [hstage] at h
  len_room h := by simp [hstage] at h
  phase_index := by rw [hcph, ht]; rfl
  h_words := hh
  mlen_lt := hmlen
  v_words h := by simp [hcph, Phase.working] at h
  s_words i h := by simp [hcph, scheduleWritten] at h

theorem busy_raiseError (c : ErrCode) (s : State) : (raiseError c s).busy = false := busy_of_error rfl

theorem inv_raiseError {s : State} (hs : Inv s) {c : ErrCode} (hc : c ≠ .noError) : Inv (raiseError c s) :=
  inv_of_rest hs.base_aligned (busy_raiseError c s) rfl rfl rfl hs.fill_le (by simpa using hc) (by simp) (by simp)
    (by simp [Mode.active]) (by simp [Mode.active])

theorem blockBytes_pos (a : Alg) : 0 < blockBytes a := by cases a <;> decide

theorem inv_applyReset {s : State} (hs : Inv s) : Inv (applyReset s) :=
  inv_of_rest hs.base_aligned (by simp [State.busy]) (by simp) (by simp) (by simp) (by simp) (by simp) (by simp)
    (by simp) (by simp [Mode.active]) (by simp [Mode.active])

/-- Settles O52: State.reset is at rest, and in UNINIT nothing is asked of H and MLEN. -/
theorem resetMeetsTheInvariant : Obligations.ResetMeetsTheInvariant :=
  inv_of_rest rfl rfl rfl rfl rfl (Nat.zero_le _) (by decide) (fun _ => ⟨rfl, rfl⟩) nofun nofun nofun

/-! ## States of a computation -/

/-- H holds W-bit words, and 0 from NH up (R35). -/
def HashWords (a : Alg) (h : Vector (BitVec 64) 8) : Prop :=
  ∀ i, i < 8 → IsWord a (readAt h i 0#64) ∧ (stateWords a ≤ i → readAt h i 0#64 = 0#64)

theorem hashWords_initialHash (a : Alg) : HashWords a (initialHash a) := by
  intro i hi
  rw [readAt_initialHash a i hi]
  exact ⟨isWord_initialWord a i, initialWord_of_stateWords_le⟩

theorem hashWords_foldHash {a : Alg} {h : Vector (BitVec 64) 8} (hh : HashWords a h) (v : Vector (BitVec 64) 8) :
    HashWords a (foldHash a h v) := by
  intro i hi
  rcases Nat.lt_or_ge i (stateWords a) with hlt | hge
  · rw [readAt_foldHash _ _ _ hlt]
    exact ⟨isWord_foldWord _ _ _, fun hle => absurd hlt (Nat.not_lt.2 hle)⟩
  · rw [readAt_foldHash_above _ _ _ hge]
    exact hh i hi

/-- What the invariant asks of a state of a computation whatever CPH, t, PSTAGE and FILL are. -/
structure HoldsComputation (s : State) : Prop where
  base_aligned : s.engineBase % 128 = 0
  no_error : s.errcode = .noError
  h_words : HashWords s.alg s.h
  mlen_lt : s.mlen.toNat < 2 ^ lenBits s.alg

theorem holdsComputation_of_inv {s : State} (hs : Inv s) (hactive : s.mode.active = true) : HoldsComputation s where
  base_aligned := hs.base_aligned
  no_error := hs.errcode_iff.2 fun h => by simp [h, Mode.active] at hactive
  h_words := hs.h_words hactive
  mlen_lt := hs.mlen_lt hactive

/-- ACCEPT with room in the block and DONE. -/
theorem inv_of_accept_or_done {s : State} (hs : HoldsComputation s) (hmode : s.mode = .accept ∨ s.mode = .done)
    (hcph : s.cph = .idle) (ht : s.t = 0#7) (hstage : s.pstage = .none) (hfill : s.fill.toNat < blockBytes s.alg) :
    Inv s := by
  have hbusy : s.busy = false := by rcases hmode with h | h <;> simp [State.busy, h]
  have herror : s.mode ≠ .error := by rcases hmode with h | h <;> simp [h]
  have huninit : s.mode ≠ .uninit := by rcases hmode with h | h <;> simp [h]
  exact inv_of_rest hs.base_aligned hbusy hcph ht hstage hfill.le (by simp [hs.no_error, herror])
    (fun h => absurd h huninit) (fun _ => hfill) (fun _ => hs.h_words) (fun _ => hs.mlen_lt)

/-- BUSY_FINAL between blocks, with FILL in the range of the padding stage (R326 to R328). -/
theorem inv_of_padding {s : State} (hs : HoldsComputation s) (hmode : s.mode = .busyFinal) (hcph : s.cph = .idle)
    (ht : s.t = 0#7) (hfill : s.fill.toNat ≤ blockBytes s.alg)
    (hstage : (s.pstage = .mark ∧ s.fill.toNat < blockBytes s.alg) ∨ s.pstage = .zfull
      ∨ (s.pstage = .len ∧ s.fill.toNat ≤ blockBytes s.alg - lenBytes s.alg)) : Inv s where
  base_aligned := hs.base_aligned
  fill_le := hfill
  errcode_iff := by simp [hs.no_error, hmode]
  uninit_fresh := by simp [hmode]
  idle_unless_busy := by simp [State.busy, hmode]
  busyBlock_stage := by simp [hmode]
  busyFinal_idle _ _ := hstage.imp And.left (Or.imp_right And.left)
  busyFinal_block _ h := absurd hcph h
  full_block h := absurd hcph h
  accept_room := by simp [hmode]
  mark_room h := by simpa [h] using hstage
  len_room h := by simpa [h] using hstage
  phase_index := by rw [hcph, ht]; rfl
  h_words _ := hs.h_words
  mlen_lt _ := hs.mlen_lt
  v_words := by simp [hcph, Phase.working]
  s_words := by simp [hcph, scheduleWritten]

/-- A full block about to be loaded, of the message or of the padding. -/
theorem inv_of_load {s : State} (hs : HoldsComputation s) (hcph : s.cph = .load) (ht : s.t = 0#7)
    (hfill : s.fill.toNat = blockBytes s.alg)
    (hstage : (s.mode = .busyBlock ∧ s.pstage = .none)
      ∨ (s.mode = .busyFinal ∧ (s.pstage = .second ∨ s.pstage = .last))) : Inv s := by
  have hmode : s.mode = .busyBlock ∨ s.mode = .busyFinal := hstage.imp And.left And.left
  exact {
    base_aligned := hs.base_aligned
    fill_le := hfill.le
    errcode_iff := by rcases hmode with h | h <;> simp [hs.no_error, h]
    uninit_fresh := by rcases hmode with h | h <;> simp [h]
    idle_unless_busy := by simp [(busy_iff s).2 hmode]
    busyBlock_stage := fun h => ⟨by simpa [h] using hstage, by simp [hcph]⟩
    busyFinal_idle := by simp [hcph]
    busyFinal_block := fun h _ => by simpa [h] using hstage
    full_block := fun _ => hfill
    accept_room := by rcases hmode with h | h <;> simp [h]
    mark_room := fun h => by simp [h] at hstage
    len_room := fun h => by simp [h] at hstage
    phase_index := by rw [hcph, ht]; rfl
    h_words := fun _ => hs.h_words
    mlen_lt := fun _ => hs.mlen_lt
    v_words := by simp [hcph, Phase.working]
    s_words := by simp [hcph, scheduleWritten] }

/-! ## The host's commands -/

theorem busy_of_accept {s : State} (h : s.mode = .accept) : s.busy = false := by simp [State.busy, h]

theorem holdsComputation_of_accept {s : State} (hs : Inv s) (hmode : s.mode = .accept) : HoldsComputation s :=
  holdsComputation_of_inv hs (by rw [hmode]; rfl)

theorem appendBytes_mlen_lt (s : State) (n : Nat) : (appendBytes n s).mlen.toNat < 2 ^ lenBits s.alg := by
  rw [appendBytes_mlen_toNat]
  exact Nat.mod_lt _ (Nat.two_pow_pos _)

/-- A PUSH leaves room in the block, or fills it and starts its compression. -/
theorem inv_push {s : State} (hs : Inv s) (hmode : s.mode = .accept) {n : Nat}
    (hroom : s.fill.toNat + n ≤ blockBytes s.alg) : Inv (startFullBlock (appendBytes n s)) := by
  obtain ⟨hcph, ht, hstage⟩ := hs.idle_unless_busy (busy_of_accept hmode)
  obtain ⟨hbase, herrcode, hh, -⟩ := holdsComputation_of_accept hs hmode
  have hfill := appendBytes_fill_toNat hroom
  rcases hroom.lt_or_eq with hlt | hfull
  · rw [startFullBlock_of_not_full (by rw [hfill]; exact hlt.ne)]
    exact inv_of_accept_or_done ⟨hbase, herrcode, hh, appendBytes_mlen_lt s n⟩ (.inl hmode) hcph ht hstage
      (by rw [hfill]; exact hlt)
  · obtain ⟨hmode', hcph'⟩ := startFullBlock_mode_cph_of_full (hfill.trans hfull)
    refine inv_of_load ⟨?base, ?errcode, ?h, ?mlen⟩ hcph' ?index ?full (.inl ⟨hmode', ?stage⟩)
    case base => simpa using hbase
    case errcode => simpa using herrcode
    case h => simpa using hh
    case mlen => rw [startFullBlock_mlen, startFullBlock_alg]; exact appendBytes_mlen_lt s n
    case index => simpa using ht
    case full => rw [startFullBlock_fill, startFullBlock_alg]; exact hfill.trans hfull
    case stage => simpa using hstage

theorem inv_startPadding {s : State} (hs : Inv s) (hmode : s.mode = .accept) : Inv (startPadding s) := by
  obtain ⟨hcph, ht, -⟩ := hs.idle_unless_busy (busy_of_accept hmode)
  obtain ⟨hbase, herrcode, hh, hmlen⟩ := holdsComputation_of_accept hs hmode
  exact inv_of_padding ⟨hbase, herrcode, hh, hmlen⟩ rfl hcph ht hs.fill_le (.inl ⟨rfl, hs.accept_room hmode⟩)

theorem inv_writeData {s : State} (hs : Inv s) (value : BitVec 32) : Inv (writeData value s) :=
  { hs with }

/-! ## The engine's steps within a block -/

/-- The registers agree that LOAD, EXPAND and ROUND leave alone: all but V, S, CPH and t. -/
def SameOutsideBlock (s t : State) : Prop :=
  t.mode = s.mode ∧ t.alg = s.alg ∧ t.errcode = s.errcode ∧ t.data = s.data ∧ t.h = s.h ∧ t.buf = s.buf
    ∧ t.fill = s.fill ∧ t.mlen = s.mlen ∧ t.pstage = s.pstage ∧ SameBus s t

theorem SameOutsideBlock.mode_eq {s t : State} (h : SameOutsideBlock s t) : t.mode = s.mode := h.1

theorem sameOutsideBlock_stepLoad (s : State) : SameOutsideBlock s (stepLoad s) := by simp [SameOutsideBlock, SameBus]

theorem sameOutsideBlock_stepExpand (s : State) : SameOutsideBlock s (stepExpand s) := by
  simp [SameOutsideBlock, SameBus]

theorem sameOutsideBlock_stepRound (s : State) : SameOutsideBlock s (stepRound s) := by
  simp [SameOutsideBlock, SameBus]

theorem busy_of_cph_ne_idle {s : State} (hs : Inv s) (hcph : s.cph ≠ .idle) : s.busy = true := by
  by_contra hidle
  exact hcph (hs.idle_unless_busy (by simpa using hidle)).1

/-- A step within a block keeps the invariant when CPH, t, V and S are in their ranges after it. -/
theorem inv_of_sameOutsideBlock {s t : State} (hs : Inv s) (hcph : s.cph ≠ .idle) (hsame : SameOutsideBlock s t)
    (hcph' : t.cph ≠ .idle) (hindex : phaseIndexOk s.alg t.cph t.t.toNat)
    (hv : t.cph.working = true → ∀ i, i < stateWords s.alg → IsWord s.alg (readAt t.v i 0#64))
    (hsch : ∀ i, i < scheduleWritten s.alg t.cph t.t.toNat → IsWord s.alg (readAt t.sch i 0#64)) : Inv t := by
  obtain ⟨hmode, halg, herrcode, -, hh, -, hfill, hmlen, hstage, hbase, -⟩ := hsame
  have hbusy : s.busy = true := busy_of_cph_ne_idle hs hcph
  have hbusy' : t.busy = true := by simpa only [State.busy, hmode] using hbusy
  exact {
    base_aligned := hbase ▸ hs.base_aligned
    fill_le := by rw [hfill, halg]; exact hs.fill_le
    errcode_iff := by rw [herrcode, hmode]; exact hs.errcode_iff
    uninit_fresh := by rw [hmode, halg, hfill]; exact hs.uninit_fresh
    idle_unless_busy := by simp [hbusy']
    busyBlock_stage := fun h => ⟨by rw [hstage]; exact (hs.busyBlock_stage (hmode ▸ h)).1, hcph'⟩
    busyFinal_idle := fun _ h => absurd h hcph'
    busyFinal_block := by rw [hmode, hstage]; exact fun h _ => hs.busyFinal_block h hcph
    full_block := by rw [hfill, halg]; exact fun _ => hs.full_block hcph
    accept_room := by rw [hmode, hfill, halg]; exact hs.accept_room
    mark_room := by rw [hstage, hfill, halg]; exact hs.mark_room
    len_room := by rw [hstage, hfill, halg]; exact hs.len_room
    phase_index := by rw [halg]; exact hindex
    h_words := by rw [hmode, halg, hh]; exact hs.h_words
    mlen_lt := by rw [hmode, halg, hmlen]; exact hs.mlen_lt
    v_words := by rw [halg]; exact hv
    s_words := by rw [halg]; exact hsch }

theorem active_of_busy {s : State} (hbusy : s.busy = true) : s.mode.active = true := by
  rcases (busy_iff s).1 hbusy with h | h <;> rw [h] <;> rfl

theorem inv_stepLoad {s : State} (hs : Inv s) (hcph : s.cph = .load) : Inv (stepLoad s) := by
  have hidle : s.cph ≠ .idle := by simp [hcph]
  have hrounds := rounds_ge s.alg
  refine inv_of_sameOutsideBlock hs hidle (sameOutsideBlock_stepLoad s) (by simp) ?index (fun _ i hi => ?v)
    (fun i hi => ?sch)
  case index => simp only [stepLoad_cph, stepLoad_t, phaseIndexOk]; exact ⟨le_rfl, by simp; omega⟩
  case v =>
    rw [stepLoad_v, readAt_writeRange_stateWords _ _ _ hi]
    exact (hs.h_words (active_of_busy (busy_of_cph_ne_idle hs hidle)) i (hi.trans_le (stateWords_le _))).1
  case sch =>
    rw [readAt_stepLoad_sch s (by simpa [scheduleWritten] using hi)]
    exact isWord_beWord _ _ _

theorem phaseIndexOk_stepExpand {s : State} (hlo : 16 ≤ s.t.toNat) (hhi : s.t.toNat < rounds s.alg) :
    phaseIndexOk s.alg (stepExpand s).cph (stepExpand s).t.toNat := by
  rw [stepExpand_cph, stepExpand_t]
  split
  case isTrue => exact Nat.zero_lt_of_lt hhi
  case isFalse => rw [ofNat_succ_toNat_of_lt_rounds hhi]; exact ⟨by omega, by omega⟩

theorem phaseIndexOk_stepRound {s : State} (hhi : s.t.toNat < rounds s.alg) :
    phaseIndexOk s.alg (stepRound s).cph (stepRound s).t.toNat := by
  rw [stepRound_cph, stepRound_t, ofNat_succ_toNat_of_lt_rounds hhi]
  split
  case isTrue hlast => exact hlast
  case isFalse => exact show s.t.toNat + 1 < rounds s.alg by omega

theorem inv_stepExpand {s : State} (hs : Inv s) (hcph : s.cph = .expand) (hlo : 16 ≤ s.t.toNat)
    (hhi : s.t.toNat < rounds s.alg) : Inv (stepExpand s) := by
  have hT := rounds_le s.alg
  refine inv_of_sameOutsideBlock hs (by simp [hcph]) (sameOutsideBlock_stepExpand s) ?cph
    (phaseIndexOk_stepExpand hlo hhi) (fun _ => hs.v_words (by rw [hcph]; rfl)) (fun i hi => ?sch)
  case cph => rw [stepExpand_cph]; split <;> simp
  case sch =>
    have hwritten : i ≤ s.t.toNat := by
      rw [stepExpand_cph, stepExpand_t] at hi
      split at hi
      case isTrue => simp only [scheduleWritten] at hi; omega
      case isFalse => simp only [scheduleWritten, ofNat_succ_toNat_of_lt_rounds hhi] at hi; omega
    rw [stepExpand_sch, readAt_writeAt]
    split
    case isTrue => exact isWord_expandWord _ _ _
    case isFalse hne => exact hs.s_words i (by rw [hcph, scheduleWritten]; omega)

theorem inv_stepRound {s : State} (hs : Inv s) (hcph : s.cph = .round) (hhi : s.t.toNat < rounds s.alg) :
    Inv (stepRound s) := by
  have hsch := hs.s_words
  rw [hcph] at hsch
  refine inv_of_sameOutsideBlock hs (by simp [hcph]) (sameOutsideBlock_stepRound s) ?cph
    (phaseIndexOk_stepRound hhi) (fun _ i hi => ?v) (fun i hi => ?sch)
  case cph => rw [stepRound_cph]; split <;> simp
  case v =>
    rw [stepRound_v, roundStep, readAt_writeRange_stateWords _ _ _ hi]
    exact isWord_roundWords _ _ _ _ _
  case sch =>
    refine hsch i ?_
    rw [stepRound_cph] at hi
    split at hi <;> exact hi

/-! ## The end of a block and the padding -/

theorem holdsComputation_of_busy {s : State} (hs : Inv s) (hbusy : s.busy = true) : HoldsComputation s :=
  holdsComputation_of_inv hs (active_of_busy hbusy)

/-- After FOLD the engine is at rest, or in the length-field stage with an empty block. -/
theorem inv_stepFold {s : State} (hs : Inv s) (hbusy : s.busy = true) (hcph : s.cph = .fold) : Inv (stepFold s) := by
  obtain ⟨hbase, herrcode, hh, hmlen⟩ := holdsComputation_of_busy hs hbusy
  have hcomp : HoldsComputation (stepFold s) := ⟨hbase, herrcode, hashWords_foldHash hh s.v, hmlen⟩
  rcases (busy_iff s).1 hbusy with hblock | hfinal
  · obtain ⟨hmode, hstage⟩ := stepFold_of_busyBlock hblock
    exact inv_of_accept_or_done hcomp (.inl hmode) rfl rfl (hstage.trans (hs.busyBlock_stage hblock).1)
      (blockBytes_pos _)
  · rcases hs.busyFinal_block hfinal (by simp [hcph]) with hsecond | hlast
    · obtain ⟨hmode, hstage⟩ := stepFold_of_second hfinal hsecond
      exact inv_of_padding hcomp hmode rfl rfl (Nat.zero_le _) (.inr (.inr ⟨hstage, Nat.zero_le _⟩))
    · obtain ⟨hmode, hstage⟩ := stepFold_of_last hfinal hlast
      exact inv_of_accept_or_done hcomp (.inr hmode) rfl rfl hstage (blockBytes_pos _)

theorem t_of_cph_idle {s : State} (hs : Inv s) (hcph : s.cph = .idle) : s.t = 0#7 := by
  have hindex := hs.phase_index
  rw [hcph] at hindex
  exact BitVec.eq_of_toNat_eq hindex

theorem inv_stepMark {s : State} (hs : Inv s) (hmode : s.mode = .busyFinal) (hcph : s.cph = .idle)
    (hroom : s.fill.toNat < blockBytes s.alg) : Inv (stepMark s) := by
  have ht := t_of_cph_idle hs hcph
  obtain ⟨hbase, herrcode, hh, hmlen⟩ := holdsComputation_of_busy hs (busy_of_busyFinal hmode)
  have hfill : (stepMark s).fill.toNat = s.fill.toNat + 1 := ofNat_toNat_of_le_blockBytes hroom
  refine inv_of_padding ⟨hbase, herrcode, hh, hmlen⟩ hmode hcph ht (hfill.trans_le hroom) (.inr ?_)
  rw [stepMark_pstage, hfill]
  split
  case isTrue hfits => exact .inr ⟨rfl, hfits⟩
  case isFalse => exact .inl rfl

theorem inv_stepZfull {s : State} (hs : Inv s) (hmode : s.mode = .busyFinal) (hcph : s.cph = .idle) :
    Inv (stepZfull s) := by
  have ht := t_of_cph_idle hs hcph
  obtain ⟨hbase, herrcode, hh, hmlen⟩ := holdsComputation_of_busy hs (busy_of_busyFinal hmode)
  exact inv_of_load ⟨hbase, herrcode, hh, hmlen⟩ rfl ht (ofNat_toNat_of_le_blockBytes le_rfl)
    (.inr ⟨hmode, .inl rfl⟩)

theorem inv_stepLen {s : State} (hs : Inv s) (hmode : s.mode = .busyFinal) (hcph : s.cph = .idle) :
    Inv (stepLen s) := by
  have ht := t_of_cph_idle hs hcph
  obtain ⟨hbase, herrcode, hh, hmlen⟩ := holdsComputation_of_busy hs (busy_of_busyFinal hmode)
  exact inv_of_load ⟨hbase, herrcode, hh, hmlen⟩ rfl ht (ofNat_toNat_of_le_blockBytes le_rfl)
    (.inr ⟨hmode, .inr rfl⟩)

/-! ## The invariant of the registers alone -/

/-- `s` with the window at 0, as in State.reset. -/
def atBaseZero (s : State) : State := { s with engineBase := 0 }

/-- The registers meet the invariant, wherever the window is. -/
def RegInv (s : State) : Prop := Inv (atBaseZero s)

theorem inv_iff (s : State) : Inv s ↔ s.engineBase % 128 = 0 ∧ RegInv s :=
  ⟨fun h => ⟨h.base_aligned, { h with base_aligned := rfl }⟩, fun ⟨hbase, h⟩ => { h with base_aligned := hbase }⟩

theorem regInv_of_sameEngine {s t : State} (h : SameEngine s t) (hs : RegInv s) : RegInv t := by
  cases s
  cases t
  simp only [SameEngine] at h
  obtain ⟨rfl, rfl, rfl, rfl, rfl, rfl, rfl, rfl, rfl, rfl, rfl, rfl, rfl⟩ := h
  exact { hs with }

theorem regInv_turnTaken {s : State} (hs : RegInv s) : RegInv (turnTaken s) :=
  regInv_of_sameEngine (sameEngine_turnTaken s) hs

theorem regInv_issued {s : State} (hs : RegInv s) : RegInv (issued s) := regInv_of_sameEngine (sameEngine_issued s) hs

/-- After INIT the registers meet the invariant whatever they held. -/
theorem regInv_startComputation (a : Alg) (s : State) : RegInv (startComputation a s) :=
  inv_of_accept_or_done ⟨rfl, rfl, hashWords_initialHash a, Nat.two_pow_pos _⟩ (.inl rfl) rfl rfl rfl (blockBytes_pos a)

theorem regInv_busyStep {s t : State} (hs : RegInv s) (hbusy : s.busy = true) (h : busyStep s = .next t) :
    RegInv t := by
  rcases busyStep_cases s t h with ⟨hcph, rfl⟩ | ⟨hcph, hlo, hhi, rfl⟩ | ⟨hcph, hhi, rfl⟩ | ⟨hcph, rfl⟩ |
    ⟨hcph, hmode, -, hroom, rfl⟩ | ⟨hcph, hmode, -, rfl⟩ | ⟨hcph, hmode, -, rfl⟩
  · exact inv_stepLoad (s := atBaseZero s) hs hcph
  · exact inv_stepExpand (s := atBaseZero s) hs hcph hlo hhi
  · exact inv_stepRound (s := atBaseZero s) hs hcph hhi
  · exact inv_stepFold (s := atBaseZero s) hs hbusy hcph
  · exact inv_stepMark (s := atBaseZero s) hs hmode hcph hroom
  · exact inv_stepZfull (s := atBaseZero s) hs hmode hcph
  · exact inv_stepLen (s := atBaseZero s) hs hmode hcph

theorem atBaseZero_startFullBlock (s : State) : atBaseZero (startFullBlock s) = startFullBlock (atBaseZero s) := by
  unfold startFullBlock
  exact apply_ite atBaseZero _ _ _

theorem regInv_push {s : State} (hs : RegInv s) (hmode : s.mode = .accept) {n : Nat}
    (hroom : s.fill.toNat + n ≤ blockBytes s.alg) : RegInv (startFullBlock (appendBytes n s)) := by
  rw [RegInv, atBaseZero_startFullBlock]
  exact inv_push (s := atBaseZero s) hs hmode hroom

theorem regInv_of_transition {s t : State} (h : Transition s t) (hs : RegInv s) : RegInv t := by
  cases h with
  | reset => exact inv_applyReset (s := atBaseZero (turnTaken s)) (regInv_turnTaken hs)
  | engine _ hbusy hstep => exact regInv_busyStep (regInv_turnTaken hs) hbusy hstep
  | error _ hc => exact inv_raiseError (s := atBaseZero (issued s)) (regInv_issued hs) hc
  | init a => exact regInv_startComputation a _
  | push _ hmode hroom => exact regInv_push (regInv_issued hs) hmode hroom
  | finish _ hmode => exact inv_startPadding (s := atBaseZero (issued s)) (regInv_issued hs) hmode
  | dataWrite => exact inv_writeData (s := atBaseZero (issued s)) (regInv_issued hs) _
  | unchanged _ _ hsame => exact regInv_of_sameEngine hsame hs

/-- ENGINE_BASE is the platform's: no transition changes it. -/
theorem engineBase_of_transition {s t : State} (h : Transition s t) : t.engineBase = s.engineBase := by
  cases h with
  | engine _ _ hstep =>
    obtain ⟨⟨hbase, -⟩, -⟩ := busyStep_frame _ _ hstep
    exact hbase
  | unchanged _ _ _ hbase => exact hbase
  | reset | error | init | push | finish | dataWrite => simp

/-- Settles O53: every transition keeps the registers' part of the invariant, and ENGINE_BASE. -/
theorem stepsKeepTheInvariant : Obligations.StepsKeepTheInvariant := by
  intro s t hs hstep
  have htrans := transition_of_step hstep
  obtain ⟨hbase, hregs⟩ := (inv_iff s).1 hs
  exact (inv_iff t).2 ⟨by rwa [engineBase_of_transition htrans], regInv_of_transition htrans hregs⟩

/-! ## A busy engine steps -/

theorem paddingStep_of_len {s : State} (hstage : s.pstage = .len) : paddingStep s = .next (stepLen s) := by
  rw [paddingStep, hstage]

/-- The range of the sequencer's phase and padding stage leaves no busy engine stuck (R321). -/
theorem exists_engineStep {s : State} (hs : RegInv s) (hbusy : s.busy = true) : ∃ t, engineStep s = .next t := by
  have hindex : phaseIndexOk s.alg s.cph s.t.toNat := hs.phase_index
  cases hcph : s.cph with
  | load => exact ⟨_, engineStep_of_load hbusy hcph⟩
  | fold => exact ⟨_, engineStep_of_fold hbusy hcph⟩
  | expand =>
    rw [hcph] at hindex
    exact ⟨_, engineStep_of_expand hbusy hcph hindex.1 hindex.2⟩
  | round =>
    rw [hcph] at hindex
    exact ⟨_, engineStep_of_round hbusy hcph hindex⟩
  | idle =>
    rcases (busy_iff s).1 hbusy with hblock | hfinal
    · exact absurd hcph (hs.busyBlock_stage hblock).2
    · rw [engineStep_of_padding hfinal hcph]
      rcases hs.busyFinal_idle hfinal hcph with hstage | hstage | hstage
      · exact ⟨_, paddingStep_of_mark hstage (hs.mark_room hstage)⟩
      · exact ⟨_, paddingStep_of_zfull hstage⟩
      · exact ⟨_, paddingStep_of_len hstage⟩

/-- A step of a state whose registers meet the invariant completes, but for an access outside the protocol. -/
theorem step_next_or_refused {s : State} (hs : RegInv s) :
    (nextEvent s = .violation ∧ step s = .refused .accessOutsideProtocol)
      ∨ (nextEvent s ≠ .violation ∧ ∃ t, step s = .next t) := by
  have hevent := step_by_event s
  cases he : nextEvent s <;> simp only [he] at hevent
  case violation => exact .inl ⟨rfl, hevent⟩
  case engineStep =>
    obtain ⟨hbusy, hstep⟩ := hevent
    obtain ⟨t, ht⟩ := exists_engineStep (regInv_turnTaken hs) hbusy
    rw [engineStep_of_busy (s := turnTaken s) hbusy] at ht
    exact .inr ⟨by simp, t, hstep.trans ht⟩
  case command w =>
    obtain ⟨t, ht⟩ := writeCmd_next w (issued s)
    exact .inr ⟨by simp, t, hevent.trans ht⟩
  case ignoredWrite off => exact .inr ⟨by simp, _, hevent.2.2⟩
  all_goals exact .inr ⟨by simp, _, hevent⟩

/-- Settles O54: a step that is not refused completes. -/
theorem invariantRulesOutStuckStates : Obligations.InvariantRulesOutStuckStates := by
  intro s hs
  rcases step_next_or_refused ((inv_iff s).1 hs).2 with ⟨hviolation, hrefused⟩ | ⟨hevent, t, hnext⟩
  · simp [hviolation, hrefused]
  · simp [hevent, hnext]

/-- Each step of a busy engine changes CPH, t or PSTAGE. -/
theorem busyStep_ne {s t : State} (h : busyStep s = .next t) : t ≠ s := by
  rcases busyStep_cases s t h with ⟨hcph, rfl⟩ | ⟨hcph, -, hhi, rfl⟩ | ⟨hcph, hhi, rfl⟩ | ⟨hcph, rfl⟩ |
    ⟨hcph, -, hstage, -, rfl⟩ | ⟨hcph, -, hstage, rfl⟩ | ⟨hcph, -, hstage, rfl⟩
  · exact fun h => by simpa [hcph] using congrArg State.cph h
  · intro h
    have hcph' := congrArg State.cph h
    have ht := congrArg (fun u => u.t.toNat) h
    simp only [stepExpand_cph, stepExpand_t, hcph] at hcph' ht
    split at hcph'
    case isTrue => cases hcph'
    case isFalse hmore =>
      rw [if_neg hmore, ofNat_succ_toNat_of_lt_rounds hhi] at ht
      omega
  · intro h
    have ht := congrArg (fun u => u.t.toNat) h
    simp only [stepRound_t, ofNat_succ_toNat_of_lt_rounds hhi] at ht
    omega
  · exact fun h => by simpa [hcph] using congrArg State.cph h
  · intro h
    have hstage' := congrArg State.pstage h
    rw [stepMark_pstage, hstage] at hstage'
    split at hstage' <;> cases hstage'
  · exact fun h => by simpa [hcph] using congrArg State.cph h
  · exact fun h => by simpa [hcph] using congrArg State.cph h

theorem sameBus_refl (s : State) : SameBus s s := ⟨rfl, rfl, rfl, rfl, rfl⟩

/-- Settles O33: without a step enabled nothing happens; a step is enabled under the invariant and changes the
sequencer's place; its frame is every engine step's. -/
theorem engineStepsExactlyWhenBusy : Obligations.EngineStepsExactlyWhenBusy := by
  intro s
  refine ⟨engineStep_of_not_busy, fun hs hbusy => ?busy, fun t hstep => ?frame⟩
  case busy =>
    obtain ⟨t, hstep⟩ := exists_engineStep ((inv_iff s).1 hs).2 hbusy
    exact ⟨t, hstep, busyStep_ne (engineStep_of_busy hbusy ▸ hstep)⟩
  case frame =>
    cases hbusy : s.busy with
    | true =>
      obtain ⟨hbus, hdata, -⟩ := busyStep_frame s t (engineStep_of_busy hbusy ▸ hstep)
      exact ⟨hbus, hdata⟩
    | false =>
      rw [engineStep_of_not_busy hbusy, Host.Outcome.next.injEq] at hstep
      exact hstep ▸ ⟨sameBus_refl s, rfl⟩

end Sys2Proof.Machine
end

section
/-!
PROOFS. The rotations (40_word_arithmetic.md R132, R133), the blocks of the padded stream (42_padder_segmenter.md R193,
R197) and the padding step LEN (46_sequencer.md R328).
-/

namespace Sys2Proof.Machine

/-! ## The rotations -/

section Rotations
variable {w : Nat} (x : BitVec w) {n i : Nat}

/-- Bit i of a left rotation is the bit n places below it in the ring. -/
theorem getLsbD_rotl (hn : 0 < n) (hnw : n < w) (hi : i < w) :
    (rotl x n).getLsbD i = x.getLsbD ((i + (w - n)) % w) := by
  rw [rotl_eq_rotateLeft x hnw, BitVec.getLsbD_rotateLeft, Nat.mod_eq_of_lt hnw]
  rcases Nat.lt_or_ge i n with hlt | hge
  · rw [Nat.mod_eq_of_lt (by omega)]
    simp [hlt, Nat.add_comm]
  · rw [show i + (w - n) = i - n + w by omega, Nat.add_mod_right, Nat.mod_eq_of_lt (by omega)]
    simp [hi, Nat.not_lt.2 hge]

/-- A right rotation is the left one by the rest of the ring (R133). -/
theorem rotr_eq_rotl (hn : n < w) : rotr x n = rotl x (w - n) := by
  rw [rotr, rotl, Nat.sub_sub_self hn.le, BitVec.or_comm]

theorem getLsbD_rotr (hn : 0 < n) (hnw : n < w) (hi : i < w) : (rotr x n).getLsbD i = x.getLsbD ((i + n) % w) := by
  rw [rotr_eq_rotl x hnw, getLsbD_rotl x (by omega) (by omega) hi, Nat.sub_sub_self hnw.le]

end Rotations

/-- Settles O35: the left rotation bit by bit; the right one is a left one. -/
theorem rotationsMoveBitsRoundTheRing : Obligations.RotationsMoveBitsRoundTheRing :=
  fun _ x _ hn hnw => ⟨fun _ hi => ⟨getLsbD_rotl x hn hnw hi, getLsbD_rotr x hn hnw hi⟩, rotr_eq_rotl x hnw⟩

/-! ## The blocks of the padded stream -/

/-- The stream is N whole blocks (R193). -/
theorem length_pad_eq_blockCount (a : Alg) (m : List (BitVec 8)) :
    (pad a m).length = blockCount a m.length * blockBytes a := by
  have hlen := length_pad a m
  have hfull := padZeros_fills_block a m.length
  have hlt := padZeros_lt a m.length
  unfold blockCount
  rcases blockBytes_cases a with ⟨-, hB, hL⟩ | ⟨-, hB, hL⟩ <;>
    simp only [hB, hL] at hlen hfull hlt ⊢ <;> omega

theorem segment_pad (a : Alg) (m : List (BitVec 8)) :
    segment a (pad a m) = (List.range (blockCount a m.length)).map (segmentBlock a (pad a m)) := by
  rw [segment, length_pad_eq_blockCount, Nat.mul_div_cancel _ (blockBytes_pos a)]

theorem getD_segmentBlock (a : Alg) (p : List (BitVec 8)) (i : Nat) {j : Nat} (h : j < 16) :
    (segmentBlock a p i).getD j 0#64 = beWord (fun k => p.getD k 0#8) (16 * i + j) (wordBytes a) := by
  simp [segmentBlock, h]

theorem wordBytes_le (a : Alg) : wordBytes a ≤ 8 := by cases a <;> decide

/-- Settles O43: N from the length of the stream, and the words by the value of be_word. -/
theorem segmentsAreWholeBlocks : Obligations.SegmentsAreWholeBlocks := by
  intro a m
  have hseg := segment_pad a m
  refine ⟨length_pad_eq_blockCount a m, by simp [hseg, blockCount], fun i hi =>
    ⟨segmentBlock a (pad a m) i, ?get, ?count, fun j hj => ?word⟩⟩
  case get => simp_all
  case count => cases a <;> simp [segmentBlock, blockWords, blockBits, wordBits]
  case word => rw [getD_segmentBlock a _ i hj, beWord_toNat _ _ _ (wordBytes_le a)]

/-! ## LEN -/

theorem engineStep_of_len {s : State} (hmode : s.mode = .busyFinal) (hcph : s.cph = .idle) (hstage : s.pstage = .len) :
    engineStep s = .next (stepLen s) := (engineStep_of_padding hmode hcph).trans (paddingStep_of_len hstage)

/-- A byte of the encoding is the byte of the value at its place from the least significant end. -/
theorem beByte_toNat_eq_extractLsb' {w : Nat} (x : BitVec w) (n j : Nat) :
    beByte x.toNat n j = x.extractLsb' (8 * (n - 1 - j)) 8 := by
  apply BitVec.eq_of_toNat_eq
  rw [beByte, BitVec.toNat_ofNat, BitVec.extractLsb'_toNat, Nat.shiftRight_eq_div_pow, Nat.pow_mul]

section LenBuffer
variable (s : State) {j : Nat}

theorem readAt_stepLen_zero (hlo : s.fill.toNat ≤ j) (hhi : j < blockBytes s.alg - lenBytes s.alg) :
    readAt (stepLen s).buf j 0#8 = 0x00#8 := by
  have hblock := blockBytes_le s.alg
  rw [stepLen_buf, readAt_writeRange, if_neg (by omega), readAt_writeRange, if_pos (by omega)]

theorem lenBytes_le_blockBytes (a : Alg) : lenBytes a ≤ blockBytes a := by cases a <;> decide

theorem readAt_stepLen_lengthField (h : j < lenBytes s.alg) :
    readAt (stepLen s).buf (blockBytes s.alg - lenBytes s.alg + j) 0#8 = beByte s.mlen.toNat (lenBytes s.alg) j := by
  have hblock := blockBytes_le s.alg
  have hlen := lenBytes_le_blockBytes s.alg
  rw [stepLen_buf, readAt_writeRange, if_pos (by omega), Nat.add_sub_cancel_left]

theorem readAt_stepLen_old (hfill : s.fill.toNat ≤ blockBytes s.alg - lenBytes s.alg)
    (h : j < s.fill.toNat ∨ blockBytes s.alg ≤ j) : readAt (stepLen s).buf j 0#8 = readAt s.buf j 0#8 := by
  have hlen := lenBytes_le_blockBytes s.alg
  rw [stepLen_buf, readAt_writeRange, if_neg (by omega), readAt_writeRange, if_neg (by omega)]

end LenBuffer

/-- Settles O32: zeros up to the length field, the bytes of MLEN, and the rest of the buffer as it was. -/
theorem lenWritesTheLengthField : Obligations.LenWritesTheLengthField := by
  intro s hmode hcph hstage hfill
  refine ⟨stepLen s, engineStep_of_len hmode hcph hstage, fun _ => readAt_stepLen_zero s, fun j hj => ?field,
    fun _ => readAt_stepLen_old s hfill, ofNat_toNat_of_le_blockBytes le_rfl, ?frame⟩
  case field => rw [readAt_stepLen_lengthField s hj, beByte_toNat_eq_extractLsb']
  case frame => simp [SameBus]

end Sys2Proof.Machine
end

section
/-!
PROOFS. The engine alone (46_sequencer.md sections 2 and 4): the steps of one block compute `compress`
(44_compressor.md R245), and the steps of a busy period are counted (R331).
-/

namespace Sys2Proof.Machine

/-! ## Runs of the engine -/

/-- `RunsThrough P n s t`: n engine steps lead from s to t, each taken in a state of which P holds. -/
inductive RunsThrough (P : State → Prop) : Nat → State → State → Prop where
  | refl (s : State) : RunsThrough P 0 s s
  | step {n : Nat} {s u t : State} : P s → engineStep s = .next u → RunsThrough P n u t → RunsThrough P (n + 1) s t

theorem engineRun_succ {s u : State} (h : engineStep s = .next u) (n : Nat) : engineRun (n + 1) s = engineRun n u := by
  rw [engineRun, h]

theorem RunsThrough.engineRun_eq {P : State → Prop} {n : Nat} {s t : State} (h : RunsThrough P n s t) :
    engineRun n s = .next t := by
  induction h with
  | refl s => rfl
  | step _ hstep _ ih => rw [engineRun_succ hstep, ih]

theorem RunsThrough.exists_of_lt {P : State → Prop} {n : Nat} {s t : State} (h : RunsThrough P n s t) :
    ∀ k, k < n → ∃ u, engineRun k s = .next u ∧ P u := by
  induction h with
  | refl s => exact fun k hk => absurd hk (Nat.not_lt_zero k)
  | @step n s u t hP hstep _ ih =>
    intro k hk
    cases k with
    | zero => exact ⟨s, rfl, hP⟩
    | succ k => rw [engineRun_succ hstep]; exact ih k (Nat.lt_of_succ_lt_succ hk)

theorem RunsThrough.snoc {P : State → Prop} {n : Nat} {s t u : State} (h : RunsThrough P n s t) (hP : P t)
    (hstep : engineStep t = .next u) : RunsThrough P (n + 1) s u := by
  induction h with
  | refl s => exact .step hP hstep (.refl u)
  | step hPs hfirst _ ih => exact .step hPs hfirst (ih hP hstep)

/-! ## The values of a block in the making -/

/-- How many rounds of the block the working state has behind it, by CPH and t. -/
def roundsDone (p : Phase) (t : Nat) : Nat :=
  match p with
  | .idle => 0
  | .load => 0
  | .expand => 0
  | .round => t
  | .fold => t

/-- S and V hold what `compress` has computed of the block so far: the written part of the schedule, and the working
state after the rounds done (R245). -/
structure Compressing (words : List (BitVec 64)) (s : State) : Prop where
  sch : ∀ i, i < scheduleWritten s.alg s.cph s.t.toNat →
    readAt s.sch i 0#64 = readAt (schedule s.alg words) i 0#64
  v : ∀ i, i < stateWords s.alg → readAt s.v i 0#64 =
    readAt (runRounds s.alg (schedule s.alg words) s.h (roundsDone s.cph s.t.toNat)) i 0#64

theorem getD_bufferBlock (s : State) {j : Nat} (h : j < 16) :
    (bufferBlock s).getD j 0#64 = beWord (fun k => readAt s.buf k 0#8) j (wordBytes s.alg) := by
  simp [bufferBlock, h]

theorem compressing_stepLoad (s : State) : Compressing (bufferBlock s) (stepLoad s) where
  sch i hi := by
    have hi : i < 16 := by simpa [scheduleWritten] using hi
    rw [readAt_stepLoad_sch s hi, readAt_schedule_of_lt _ _ hi, getD_bufferBlock s hi]
  v i hi := by
    rw [stepLoad_alg] at hi
    rw [stepLoad_v, readAt_writeRange_stateWords _ _ _ hi]
    rfl

theorem readAt_schedule_of_le (a : Alg) (words : List (BitVec 64)) {t : Nat} (hlo : 16 ≤ t) (hhi : t < rounds a) :
    readAt (schedule a words) t 0#64 = expandWord a (fun i => readAt (schedule a words) i 0#64) t := by
  obtain ⟨n, rfl⟩ := Nat.exists_eq_add_of_le hlo
  exact readAt_schedule_add a words hhi

/-- After EXPAND at t the words below t + 1 are written, whether or not it was the last. -/
theorem scheduleWritten_stepExpand {s : State} (hhi : s.t.toNat < rounds s.alg) :
    scheduleWritten s.alg (stepExpand s).cph (stepExpand s).t.toNat = s.t.toNat + 1 := by
  rw [stepExpand_cph, stepExpand_t]
  split
  case isTrue hlast => exact hlast.symm
  case isFalse => exact ofNat_succ_toNat_of_lt_rounds hhi

theorem roundsDone_stepExpand (s : State) : roundsDone (stepExpand s).cph (stepExpand s).t.toNat = 0 := by
  rw [stepExpand_cph, stepExpand_t]
  split <;> rfl

theorem compressing_stepExpand {words : List (BitVec 64)} {s : State} (h : Compressing words s) (hcph : s.cph = .expand)
    (hlo : 16 ≤ s.t.toNat) (hhi : s.t.toNat < rounds s.alg) : Compressing words (stepExpand s) where
  sch i hi := by
    have hT := rounds_le s.alg
    have hbelow : ∀ i, i < s.t.toNat → readAt s.sch i 0#64 = readAt (schedule s.alg words) i 0#64 := by
      simpa [hcph, scheduleWritten] using h.sch
    rw [stepExpand_alg, scheduleWritten_stepExpand hhi] at hi
    rw [stepExpand_sch, readAt_writeAt, stepExpand_alg]
    split
    case isTrue hself => rw [hself.1, readAt_schedule_of_le _ _ hlo hhi, expandWord_congr _ hlo hbelow]
    case isFalse hother => exact hbelow i (by omega)
  v := by
    rw [roundsDone_stepExpand]
    simpa [hcph, roundsDone] using h.v

/-- A round reads the first NH words of the working state only (R242 to R244). -/
theorem roundWords_congr (a : Alg) (t : Nat) (s : BitVec 64) {v w : Nat → BitVec 64}
    (h : ∀ j, j < stateWords a → v j = w j) : roundWords a t s v = roundWords a t s w := by
  cases a <;> simp [stateWords] at h <;> simp [roundWords, h]

theorem readAt_roundStep (a : Alg) (t : Nat) (s : BitVec 64) (v : Vector (BitVec 64) 8) {i : Nat}
    (h : i < stateWords a) :
    readAt (roundStep a t s v) i 0#64 = (roundWords a t s fun j => readAt v j 0#64).getD i 0#64 :=
  readAt_writeRange_stateWords a _ _ h

theorem runRounds_succ (a : Alg) (s : Vector (BitVec 64) 80) (v : Vector (BitVec 64) 8) (n : Nat) :
    runRounds a s v (n + 1) = roundStep a n (readAt s n 0#64) (runRounds a s v n) := by
  simp [runRounds, List.range_succ]

theorem scheduleWritten_stepRound (s : State) (n : Nat) :
    scheduleWritten s.alg (stepRound s).cph n = rounds s.alg := by
  rw [stepRound_cph]
  split <;> rfl

theorem roundsDone_stepRound {s : State} (hhi : s.t.toNat < rounds s.alg) :
    roundsDone (stepRound s).cph (stepRound s).t.toNat = s.t.toNat + 1 := by
  rw [stepRound_cph, stepRound_t, ofNat_succ_toNat_of_lt_rounds hhi]
  split <;> rfl

theorem compressing_stepRound {words : List (BitVec 64)} {s : State} (h : Compressing words s) (hcph : s.cph = .round)
    (hhi : s.t.toNat < rounds s.alg) : Compressing words (stepRound s) := by
  obtain ⟨hsch, hv⟩ := h
  simp only [hcph, scheduleWritten, roundsDone] at hsch hv
  refine ⟨fun i hi => ?sch, fun i hi => ?v⟩
  case sch =>
    rw [stepRound_alg, scheduleWritten_stepRound] at hi
    exact hsch i hi
  case v =>
    rw [stepRound_alg] at hi
    rw [roundsDone_stepRound hhi, stepRound_v, stepRound_alg, stepRound_h, runRounds_succ, readAt_roundStep _ _ _ _ hi,
      readAt_roundStep _ _ _ _ hi, hsch _ hhi, roundWords_congr _ _ _ hv]

/-- The fold reads the first NH words of the working state only (R246). -/
theorem foldHash_congr (a : Alg) (h : Vector (BitVec 64) 8) {v w : Vector (BitVec 64) 8}
    (heq : ∀ i, i < stateWords a → readAt v i 0#64 = readAt w i 0#64) : foldHash a h v = foldHash a h w := by
  refine readAt_ext _ _ 0#64 fun i _ => ?_
  rcases Nat.lt_or_ge i (stateWords a) with hlt | hge
  · rw [readAt_foldHash _ _ _ hlt, readAt_foldHash _ _ _ hlt, heq i hlt]
  · rw [readAt_foldHash_above _ _ _ hge, readAt_foldHash_above _ _ _ hge]

/-- FOLD after T rounds completes `compress` (R245). -/
theorem stepFold_h_of_compressing {words : List (BitVec 64)} {s : State} (h : Compressing words s)
    (hcph : s.cph = .fold) (ht : s.t.toNat = rounds s.alg) : (stepFold s).h = compress s.alg s.h words := by
  have hv := h.v
  rw [hcph, ht] at hv
  rw [stepFold_h, compress, foldHash_congr _ _ hv]
  rfl

/-! ## The steps of one block -/

/-- The engine steps left of the block in work, by CPH and t (R331). -/
def blockRemaining (a : Alg) (p : Phase) (t : Nat) : Nat :=
  match p with
  | .idle => 0
  | .load => blockSteps a
  | .expand => rounds a - t + rounds a + 1
  | .round => rounds a - t + 1
  | .fold => 1

theorem blockRemaining_stepLoad (s : State) :
    blockRemaining s.alg (stepLoad s).cph (stepLoad s).t.toNat + 1 = blockSteps s.alg := by
  have hT := rounds_ge s.alg
  simp only [stepLoad_cph, stepLoad_t, blockRemaining, blockSteps, BitVec.reduceToNat]
  omega

theorem blockRemaining_stepExpand {s : State} (hcph : s.cph = .expand) (hhi : s.t.toNat < rounds s.alg) :
    blockRemaining s.alg (stepExpand s).cph (stepExpand s).t.toNat + 1 = blockRemaining s.alg s.cph s.t.toNat := by
  rw [stepExpand_cph, stepExpand_t, hcph]
  split
  case isTrue hlast => simp only [blockRemaining, BitVec.reduceToNat]; omega
  case isFalse => simp only [blockRemaining, ofNat_succ_toNat_of_lt_rounds hhi]; omega

theorem blockRemaining_stepRound {s : State} (hcph : s.cph = .round) (hhi : s.t.toNat < rounds s.alg) :
    blockRemaining s.alg (stepRound s).cph (stepRound s).t.toNat + 1 = blockRemaining s.alg s.cph s.t.toNat := by
  rw [stepRound_cph, stepRound_t, hcph, ofNat_succ_toNat_of_lt_rounds hhi]
  split <;> simp only [blockRemaining] <;> omega

/-- `u` is in the middle of the block that `s` is about to load: between LOAD and FOLD. -/
structure InBlock (s u : State) : Prop where
  same : SameOutsideBlock s u
  working : u.cph.working = true
  index : phaseIndexOk u.alg u.cph u.t.toNat
  compressing : Compressing (bufferBlock s) u

theorem working_stepExpand (s : State) : (stepExpand s).cph.working = true := by
  rw [stepExpand_cph]
  split <;> rfl

theorem working_stepRound (s : State) : (stepRound s).cph.working = true := by
  rw [stepRound_cph]
  split <;> rfl

theorem sameOutsideBlock_trans {s t u : State} (h₁ : SameOutsideBlock s t) (h₂ : SameOutsideBlock t u) :
    SameOutsideBlock s u := by
  simp_all [SameOutsideBlock, SameBus]

theorem inBlock_stepLoad (s : State) : InBlock s (stepLoad s) where
  same := sameOutsideBlock_stepLoad s
  working := rfl
  index := ⟨le_rfl, show 16 < rounds s.alg from (rounds_ge s.alg).trans_lt' (by decide)⟩
  compressing := compressing_stepLoad s

theorem blockRemaining_pos (a : Alg) {p : Phase} (t : Nat) (h : p ≠ .idle) : 0 < blockRemaining a p t := by
  cases p with
  | idle => exact absurd rfl h
  | load =>
    have hT := rounds_ge a
    simp only [blockRemaining, blockSteps]
    omega
  | expand => exact Nat.succ_pos _
  | round => exact Nat.succ_pos _
  | fold => exact Nat.one_pos

theorem cph_ne_idle_of_working {p : Phase} (h : p.working = true) : p ≠ .idle := by
  rintro rfl
  cases h

/-- Between LOAD and FOLD the engine stands at FOLD or makes one step of the block. -/
theorem inBlock_step {s u : State} (hbusy : s.busy = true) (h : InBlock s u) :
    u.cph = .fold ∨ ∃ v, engineStep u = .next v ∧ InBlock s v
      ∧ blockRemaining v.alg v.cph v.t.toNat + 1 = blockRemaining u.alg u.cph u.t.toNat := by
  obtain ⟨hsame, hworking, hindex, hcomp⟩ := h
  have hmode := hsame.mode_eq
  have hbusy : u.busy = true := by simpa only [State.busy, hmode] using hbusy
  cases hcph : u.cph with
  | idle => rw [hcph] at hworking; cases hworking
  | load => rw [hcph] at hworking; cases hworking
  | fold => exact .inl rfl
  | expand =>
    rw [hcph] at hindex
    obtain ⟨hlo, hhi⟩ := hindex
    exact .inr ⟨_, engineStep_of_expand hbusy hcph hlo hhi,
      ⟨sameOutsideBlock_trans hsame (sameOutsideBlock_stepExpand u), working_stepExpand u,
        phaseIndexOk_stepExpand hlo hhi, compressing_stepExpand hcomp hcph hlo hhi⟩,
      hcph ▸ blockRemaining_stepExpand hcph hhi⟩
  | round =>
    rw [hcph] at hindex
    exact .inr ⟨_, engineStep_of_round hbusy hcph hindex,
      ⟨sameOutsideBlock_trans hsame (sameOutsideBlock_stepRound u), working_stepRound u,
        phaseIndexOk_stepRound hindex, compressing_stepRound hcomp hcph hindex⟩,
      hcph ▸ blockRemaining_stepRound hcph hindex⟩

/-- From within the block the engine runs to its FOLD, in the steps left but one. -/
theorem exists_runsThrough_fold {s : State} (hbusy : s.busy = true) (n : Nat) :
    ∀ u, InBlock s u → blockRemaining u.alg u.cph u.t.toNat = n + 1 →
      ∃ v, RunsThrough (fun x => x.mode = s.mode ∧ x.cph ≠ .idle) n u v ∧ InBlock s v ∧ v.cph = .fold := by
  induction n with
  | zero =>
    intro u h hlast
    rcases inBlock_step hbusy h with hfold | ⟨v, -, hv, hcount⟩
    · exact ⟨u, .refl u, h, hfold⟩
    · have hpos := blockRemaining_pos v.alg v.t.toNat (cph_ne_idle_of_working hv.working)
      omega
  | succ n ih =>
    intro u h hmore
    rcases inBlock_step hbusy h with hfold | ⟨v, hstep, hv, hcount⟩
    · rw [hfold] at hmore
      cases hmore
    · obtain ⟨w, hrun, hw⟩ := ih v hv (by omega)
      exact ⟨w, .step ⟨h.same.mode_eq, cph_ne_idle_of_working h.working⟩ hstep hrun, hw⟩

/-- From LOAD the engine runs through the block to its FOLD, busy with the block all along. -/
theorem exists_runsThrough_block {s : State} (hbusy : s.busy = true) (hcph : s.cph = .load) :
    ∃ v, RunsThrough (fun x => x.mode = s.mode ∧ x.cph ≠ .idle) (blockSteps s.alg) s (stepFold v) ∧ InBlock s v
      ∧ v.cph = .fold := by
  have hT := rounds_ge s.alg
  have hcount := blockRemaining_stepLoad s
  obtain ⟨n, hn⟩ : ∃ n, blockSteps s.alg = n + 2 := ⟨blockSteps s.alg - 2, by rw [blockSteps]; omega⟩
  obtain ⟨v, hrun, hv, hfold⟩ :=
    exists_runsThrough_fold hbusy n (stepLoad s) (inBlock_stepLoad s) (by rw [stepLoad_alg]; omega)
  have hvmode := hv.same.mode_eq
  have hvbusy : v.busy = true := by simpa only [State.busy, hvmode] using hbusy
  have hlast := hrun.snoc ⟨hvmode, by simp [hfold]⟩ (engineStep_of_fold hvbusy hfold)
  exact ⟨v, hn ▸ .step ⟨rfl, by simp [hcph]⟩ (engineStep_of_load hbusy hcph) hlast, hv, hfold⟩

/-- Settles O46: the run through the block keeps the values `compress` has computed so far, and FOLD completes them. -/
theorem blockStepsComputeCompress : Obligations.BlockStepsComputeCompress := by
  intro s hbusy hcph
  obtain ⟨v, hrun, hv, hfold⟩ := exists_runsThrough_block hbusy hcph
  obtain ⟨⟨hmode, halg, -, -, hh, hbuf, -, hmlen, hstage, -⟩, -, hindex, hcomp⟩ := hv
  rw [hfold] at hindex
  refine ⟨hrun.exists_of_lt, stepFold v, hrun.engineRun_eq, ?hash, rfl, rfl, rfl, halg, hmlen, hbuf,
    fun hblock => ?block, fun hfinal hsecond => ?second, fun hfinal hlast => ?last⟩
  case hash => rw [stepFold_h_of_compressing hcomp hfold hindex, halg, hh]
  case block => rw [← hstage]; exact stepFold_of_busyBlock (hmode.trans hblock)
  case second => exact stepFold_of_second (hmode.trans hfinal) (hstage.trans hsecond)
  case last => exact stepFold_of_last (hmode.trans hfinal) (hstage.trans hlast)

end Sys2Proof.Machine
end

section
/-!
PROOFS. How long the engine is busy (46_sequencer.md section 4, R331): the engine steps left are counted by CPH, t and
PSTAGE, and each step takes one off.
-/

namespace Sys2Proof.Machine

/-! ## The steps left -/

/-- The engine steps the padding needs after the block in work, by PSTAGE (R331). -/
def paddingRemaining (a : Alg) (p : PadStage) (fill : Nat) : Nat :=
  match p with
  | .none => 0
  | .mark => finishSteps a fill
  | .zfull => 2 + 2 * blockSteps a
  | .len => 1 + blockSteps a
  | .second => 1 + blockSteps a
  | .last => 0

/-- The engine steps until the engine is no longer busy. -/
def remaining (s : State) : Nat :=
  blockRemaining s.alg s.cph s.t.toNat + paddingRemaining s.alg s.pstage s.fill.toNat

theorem finishSteps_of_fits {a : Alg} {r : Nat} (h : r + 1 ≤ blockBytes a - lenBytes a) :
    finishSteps a r = 2 + blockSteps a := by
  rw [finishSteps, if_pos (by omega)]

theorem finishSteps_of_not_fits {a : Alg} {r : Nat} (h : ¬ r + 1 ≤ blockBytes a - lenBytes a) :
    finishSteps a r = 3 + 2 * blockSteps a := by
  have hpos : 1 ≤ blockBytes a - lenBytes a := by cases a <;> decide
  rw [finishSteps, if_neg (by omega)]

theorem blockRemaining_load (a : Alg) (t : Nat) : blockRemaining a .load t = blockSteps a := rfl

theorem remaining_stepFold {s : State} (hs : RegInv s) (hbusy : s.busy = true) (hcph : s.cph = .fold) :
    remaining (stepFold s) + 1 = remaining s := by
  have hstage : (s.pstage = .none ∧ (stepFold s).pstage = .none) ∨ (s.pstage = .second ∧ (stepFold s).pstage = .len)
      ∨ (s.pstage = .last ∧ (stepFold s).pstage = .none) := by
    rcases (busy_iff s).1 hbusy with hblock | hfinal
    · have hnone : s.pstage = .none := (hs.busyBlock_stage hblock).1
      exact .inl ⟨hnone, (stepFold_of_busyBlock hblock).2.trans hnone⟩
    · rcases hs.busyFinal_block hfinal (fun h : s.cph = .idle => by simp [hcph] at h) with hsecond | hlast
      · exact .inr (.inl ⟨hsecond, (stepFold_of_second hfinal hsecond).2⟩)
      · exact .inr (.inr ⟨hlast, (stepFold_of_last hfinal hlast).2⟩)
  rcases hstage with ⟨h, h'⟩ | ⟨h, h'⟩ | ⟨h, h'⟩ <;>
    simp [remaining, h, h', hcph, blockRemaining, paddingRemaining, -stepFold_pstage, Nat.add_comm]

theorem remaining_stepMark {s : State} (hcph : s.cph = .idle) (hstage : s.pstage = .mark) :
    remaining (stepMark s) + 1 = remaining s := by
  by_cases hfits : s.fill.toNat + 1 ≤ blockBytes s.alg - lenBytes s.alg
  · simp only [remaining, stepMark_cph, stepMark_alg, stepMark_pstage, hcph, hstage, if_pos hfits, blockRemaining,
      paddingRemaining, finishSteps_of_fits hfits]
    omega
  · simp only [remaining, stepMark_cph, stepMark_alg, stepMark_pstage, hcph, hstage, if_neg hfits, blockRemaining,
      paddingRemaining, finishSteps_of_not_fits hfits]
    omega

/-- A step of a busy engine takes one off the steps left. -/
theorem remaining_of_engineStep {s t : State} (hs : RegInv s) (hbusy : s.busy = true) (h : engineStep s = .next t) :
    remaining t + 1 = remaining s := by
  rw [engineStep_of_busy hbusy] at h
  rcases busyStep_cases s t h with ⟨hcph, rfl⟩ | ⟨hcph, -, hhi, rfl⟩ | ⟨hcph, hhi, rfl⟩ | ⟨hcph, rfl⟩ |
    ⟨hcph, -, hstage, -, rfl⟩ | ⟨hcph, -, hstage, rfl⟩ | ⟨hcph, -, hstage, rfl⟩
  · have hblock := blockRemaining_stepLoad s
    simp only [remaining, stepLoad_alg, stepLoad_pstage, stepLoad_fill, hcph] at hblock ⊢
    rw [blockRemaining_load]
    omega
  · have hblock := blockRemaining_stepExpand hcph hhi
    simp only [remaining, stepExpand_alg, stepExpand_pstage, stepExpand_fill]
    omega
  · have hblock := blockRemaining_stepRound hcph hhi
    simp only [remaining, stepRound_alg, stepRound_pstage, stepRound_fill]
    omega
  · exact remaining_stepFold hs hbusy hcph
  · exact remaining_stepMark hcph hstage
  · simp only [remaining, stepZfull_alg, stepZfull_pstage, stepZfull_cph, hcph, hstage, blockRemaining,
      paddingRemaining]
    omega
  · simp only [remaining, stepLen_alg, stepLen_pstage, stepLen_cph, hcph, hstage, blockRemaining, paddingRemaining]
    omega

theorem remaining_of_not_busy {s : State} (hs : RegInv s) (hbusy : s.busy = false) : remaining s = 0 := by
  obtain ⟨hcph, -, hstage⟩ : s.cph = .idle ∧ s.t = 0#7 ∧ s.pstage = .none := hs.idle_unless_busy hbusy
  rw [remaining, hcph, hstage]
  rfl

/-! ## A busy period -/

theorem regInv_engineStep {s t : State} (hs : RegInv s) (hbusy : s.busy = true) (h : engineStep s = .next t) :
    RegInv t :=
  regInv_busyStep hs hbusy (engineStep_of_busy hbusy ▸ h)

/-- The engine runs for exactly the steps left, busy in each, and is not busy after them; whatever its steps keep (`Q`)
holds all along. -/
theorem exists_runsThrough_remaining {Q : State → Prop}
    (hQ : ∀ s t, RegInv s → s.busy = true → engineStep s = .next t → Q s → Q t) {s : State} (hs : RegInv s) (hq : Q s) :
    ∃ t, RunsThrough (fun u => u.busy = true ∧ Q u) (remaining s) s t ∧ RegInv t ∧ t.busy = false ∧ Q t := by
  induction hn : remaining s generalizing s with
  | zero =>
    cases hbusy : s.busy with
    | false => exact ⟨s, .refl s, hs, hbusy, hq⟩
    | true =>
      obtain ⟨t, hstep⟩ := exists_engineStep hs hbusy
      have hcount := remaining_of_engineStep hs hbusy hstep
      omega
  | succ n ih =>
    cases hbusy : s.busy with
    | false =>
      rw [remaining_of_not_busy hs hbusy] at hn
      cases hn
    | true =>
      obtain ⟨t, hstep⟩ := exists_engineStep hs hbusy
      have hcount := remaining_of_engineStep hs hbusy hstep
      obtain ⟨u, hrun, hu⟩ := ih (regInv_engineStep hs hbusy hstep) (hQ s t hs hbusy hstep hq) (by omega)
      exact ⟨u, .step ⟨hbusy, hq⟩ hstep hrun, hu⟩

theorem RunsThrough.mono {P R : State → Prop} (hPR : ∀ s, P s → R s) {n : Nat} {s t : State} (h : RunsThrough P n s t) :
    RunsThrough R n s t := by
  induction h with
  | refl s => exact .refl s
  | step hP hstep _ ih => exact .step (hPR _ hP) hstep ih

/-! ## FINISH -/

/-- The final blocks stay BUSY_FINAL until DONE. -/
theorem mode_of_busyFinal {s t : State} (hmode : s.mode = .busyFinal) (h : engineStep s = .next t) :
    t.mode = .busyFinal ∨ t.mode = .done := by
  rw [engineStep_of_busy (busy_of_busyFinal hmode)] at h
  rcases busyStep_cases s t h with ⟨-, rfl⟩ | ⟨-, -, -, rfl⟩ | ⟨-, -, rfl⟩ | ⟨-, rfl⟩ | ⟨-, -, -, -, rfl⟩ |
    ⟨-, -, -, rfl⟩ | ⟨-, -, -, rfl⟩
  case inr.inr.inr.inl =>
    rw [stepFold_mode, modeAfterFold, hmode]
    split_ifs <;> simp_all
  all_goals exact .inl hmode

theorem remaining_startPadding {s : State} (hcph : s.cph = .idle) :
    remaining (startPadding s) = finishSteps s.alg s.fill.toNat := by
  simp only [remaining, startPadding_alg, startPadding_cph, startPadding_pstage, startPadding_fill, hcph,
    blockRemaining, paddingRemaining, Nat.zero_add]

theorem finishSteps_eq (a : Alg) (r : Nat) : finishSteps a r =
    match a with
    | .sha1 => if r ≤ 55 then 148 else 295
    | .sha256 => if r ≤ 55 then 116 else 231
    | .sha512 => if r ≤ 111 then 148 else 295 := by
  cases a <;> rfl

/-- Settles O48: FINISH leaves exactly the counted steps, and the engine is in BUSY_FINAL in each of them. -/
theorem finishTakesTheCountedSteps : Obligations.FinishTakesTheCountedSteps := by
  intro s t hs hmode hfinish
  rw [exec_finish, whenAccepting_of_accept hmode, Host.Outcome.next.injEq] at hfinish
  subst hfinish
  have hcph := (hs.idle_unless_busy (busy_of_accept hmode)).1
  have hpad : RegInv (startPadding s) := ((inv_iff _).1 (inv_startPadding hs hmode)).2
  obtain ⟨d, hrun, -, hidle, hd⟩ := exists_runsThrough_remaining (Q := fun u => u.mode = .busyFinal ∨ u.mode = .done)
    (fun u v _ hbusy hstep hu => mode_of_busyFinal (hu.resolve_right fun h => by simp [State.busy, h] at hbusy) hstep)
    hpad (.inl rfl)
  rw [remaining_startPadding hcph] at hrun
  have hfinal : ∀ u : State, u.busy = true ∧ (u.mode = .busyFinal ∨ u.mode = .done) → u.mode = .busyFinal :=
    fun u ⟨hbusy, hu⟩ => hu.resolve_right fun h => by simp [State.busy, h] at hbusy
  refine ⟨finishSteps_eq s.alg _, (hrun.mono hfinal).exists_of_lt, d, hrun.engineRun_eq, ?_⟩
  exact hd.resolve_left fun h => by simp [State.busy, h] at hidle

/-! ## The whole machine with no turn listed -/

theorem step_of_busy {s : State} (hturns : s.turns = []) (hbusy : s.busy = true) : step s = engineStep s := by
  rw [step, hturns]
  exact if_pos hbusy

theorem core_run_succ {s t : State} (h : step s = .next t) (n : Nat) :
    Sys2Proof.core.run (n + 1) s = Sys2Proof.core.run n t := by
  have hcore : Sys2Proof.core.step s = .next t := h
  simp only [Host.Core.run, hcore]

theorem core_run_of_refused {s : State} {r : Refusal} (h : step s = .refused r) (n : Nat) :
    Sys2Proof.core.run (n + 1) s = .refused r := by
  have hcore : Sys2Proof.core.step s = .refused r := h
  simp only [Host.Core.run, hcore]

theorem core_run_of_fault {s : State} {r : Fault} (h : step s = .fault r) (n : Nat) :
    Sys2Proof.core.run (n + 1) s = .fault r := by
  have hcore : Sys2Proof.core.step s = .fault r := h
  simp only [Host.Core.run, hcore]

/-- While the engine is busy and no turn is listed, the machine's steps are the engine's. -/
theorem RunsThrough.core_run_eq {P : State → Prop} (hP : ∀ u, P u → u.busy = true ∧ u.turns = []) {n : Nat}
    {s t : State} (h : RunsThrough P n s t) : Sys2Proof.core.run n s = .next t := by
  induction h with
  | refl s => rfl
  | step hPs hstep _ ih =>
    obtain ⟨hbusy, hturns⟩ := hP _ hPs
    rw [core_run_succ ((step_of_busy hturns hbusy).trans hstep), ih]

theorem sameBus_of_engineStep {s t : State} (hbusy : s.busy = true) (h : engineStep s = .next t) : SameBus s t :=
  (busyStep_frame s t (engineStep_of_busy hbusy ▸ h)).1

theorem sameBus_trans {s t u : State} (h₁ : SameBus s t) (h₂ : SameBus t u) : SameBus s u := by
  simp_all [SameBus]

theorem active_of_engineStep {s t : State} (hactive : s.mode.active = true) (hbusy : s.busy = true)
    (h : engineStep s = .next t) : t.mode.active = true := by
  rcases busyStep_mode_cases (engineStep_of_busy hbusy ▸ h) with hmode | hmode | hmode <;> rw [hmode]
  · rfl
  · rfl
  · exact hactive

theorem accept_or_done_of_active {s : State} (hactive : s.mode.active = true) (hidle : s.busy = false) :
    s.mode = .accept ∨ s.mode = .done := by
  unfold State.busy at hidle
  cases hmode : s.mode <;> simp_all [Mode.active]

theorem blockRemaining_le {a : Alg} {p : Phase} {t : Nat} (h : phaseIndexOk a p t) :
    blockRemaining a p t ≤ blockSteps a := by
  have hT := rounds_ge a
  cases p with
  | idle => exact Nat.zero_le _
  | load => exact le_rfl
  | expand =>
    obtain ⟨hlo, -⟩ := h
    simp only [blockRemaining, blockSteps]
    omega
  | round => simp only [blockRemaining, blockSteps]; omega
  | fold => simp only [blockRemaining, blockSteps]; omega

theorem blockSteps_le (a : Alg) : blockSteps a ≤ 146 := by cases a <;> decide

theorem paddingRemaining_le (a : Alg) (p : PadStage) (fill : Nat) :
    paddingRemaining a p fill ≤ 3 + 2 * blockSteps a := by
  cases p with
  | mark => simp only [paddingRemaining, finishSteps]; split <;> omega
  | none => exact Nat.zero_le _
  | zfull => simp only [paddingRemaining]; omega
  | len => simp only [paddingRemaining]; omega
  | second => simp only [paddingRemaining]; omega
  | last => exact Nat.zero_le _

/-- While a block is in work at most the length-field block comes after it. -/
theorem paddingRemaining_le_of_block {s : State} (hs : RegInv s) (hcph : s.cph ≠ .idle) (fill : Nat) :
    paddingRemaining s.alg s.pstage fill ≤ 1 + blockSteps s.alg := by
  have hbusy : s.busy = true := busy_of_cph_ne_idle (s := atBaseZero s) hs hcph
  have hstage : s.pstage = .none ∨ s.pstage = .second ∨ s.pstage = .last := by
    rcases (busy_iff s).1 hbusy with hblock | hfinal
    · exact .inl (hs.busyBlock_stage hblock).1
    · exact .inr (hs.busyFinal_block hfinal hcph)
  rcases hstage with h | h | h <;> simp [h, paddingRemaining]

/-- At most two blocks and the three padding steps are left (R331). -/
theorem remaining_le {s : State} (hs : RegInv s) : remaining s ≤ 295 := by
  have hblock := blockRemaining_le (show phaseIndexOk s.alg s.cph s.t.toNat from hs.phase_index)
  have hsteps := blockSteps_le s.alg
  rw [remaining]
  by_cases hcph : s.cph = .idle
  · have hpadding := paddingRemaining_le s.alg s.pstage s.fill.toNat
    rw [hcph, blockRemaining]
    omega
  · have hpadding := paddingRemaining_le_of_block hs hcph s.fill.toNat
    omega

/-- Settles O49: the machine's steps are the engine's, no more than the steps left, and the engine touches no bus. -/
theorem busyPeriodsEnd : Obligations.BusyPeriodsEnd := by
  intro s hs hbusy hturns
  have hregs : RegInv s := ((inv_iff s).1 hs).2
  have hkeep : ∀ u v, RegInv u → u.busy = true → engineStep u = .next v → u.mode.active = true ∧ SameBus s u →
      v.mode.active = true ∧ SameBus s v := fun u v _ hbusy hstep ⟨hactive, hbus⟩ =>
    ⟨active_of_engineStep hactive hbusy hstep, sameBus_trans hbus (sameBus_of_engineStep hbusy hstep)⟩
  obtain ⟨t, hrun, -, hidle, hactive, -, hhost, -, hresponses, -⟩ :=
    exists_runsThrough_remaining hkeep hregs ⟨active_of_busy hbusy, sameBus_refl s⟩
  have hbusyQuiet : ∀ u : State, u.busy = true ∧ u.mode.active = true ∧ SameBus s u → u.busy = true ∧ u.turns = [] :=
    fun u ⟨hbusy, _, _, _, hu, _⟩ => ⟨hbusy, hu.trans hturns⟩
  exact ⟨remaining s, t, remaining_le hregs, hrun.core_run_eq hbusyQuiet, accept_or_done_of_active hactive hidle, hhost,
    hresponses⟩

end Sys2Proof.Machine
end

section
/-!
PROOFS. A computation under any interleaving (46_sequencer.md section 4, R330): what its state holds of the padded
stream, kept by every step a computation may make, and the digest it ends with.
-/

namespace Sys2Proof.Machine

/-! ## Positions in the padded stream -/

theorem getD_pad_of_lt (a : Alg) (m : List (BitVec 8)) {i : Nat} (d : BitVec 8) (h : i < m.length) :
    (pad a m).getD i d = m.getD i d := by
  rw [pad_eq_append, List.getD_append _ _ _ _ h]

/-- Between the mark and the length field the stream is zeros. -/
theorem getD_pad_of_between (a : Alg) (m : List (BitVec 8)) {i : Nat} (d : BitVec 8) (hlo : m.length < i)
    (hhi : i + lenBytes a < (pad a m).length) : (pad a m).getD i d = 0x00#8 := by
  obtain ⟨k, rfl⟩ := Nat.exists_eq_add_of_le (Nat.succ_le_of_lt hlo)
  rw [length_pad] at hhi
  exact getD_pad_zero a m d (by omega)

/-- The length field fits in the block of the mark, which is then the last. -/
theorem blockCount_of_fits {a : Alg} {n k r : Nat} (hn : k * blockBytes a + r = n)
    (hfits : r + 1 ≤ blockBytes a - lenBytes a) : blockCount a n = k + 1 := by
  unfold blockCount
  rcases blockBytes_cases a with ⟨-, hB, hL⟩ | ⟨-, hB, hL⟩ <;> simp only [hB, hL] at hn hfits ⊢ <;> omega

/-- The length field does not fit in the block of the mark, and one more block follows. -/
theorem blockCount_of_not_fits {a : Alg} {n k r : Nat} (hn : k * blockBytes a + r = n + 1)
    (hfull : r ≤ blockBytes a) (hnot : blockBytes a - lenBytes a < r) : blockCount a n = k + 2 := by
  unfold blockCount
  rcases blockBytes_cases a with ⟨-, hB, hL⟩ | ⟨-, hB, hL⟩ <;> simp only [hB, hL] at hn hfull hnot ⊢ <;> omega

theorem lt_blockCount {a : Alg} {n k : Nat} (h : k * blockBytes a ≤ n) : k < blockCount a n := by
  unfold blockCount
  rcases blockBytes_cases a with ⟨-, hB, hL⟩ | ⟨-, hB, hL⟩ <;> simp only [hB, hL] at h ⊢ <;> omega

/-! ## The hash state after some blocks -/

/-- The running hash state after the first k blocks of pad(M) (R247). -/
def foldedHash (a : Alg) (m : List (BitVec 8)) (k : Nat) : Vector (BitVec 64) 8 :=
  ((List.range k).map (segmentBlock a (pad a m))).foldl (compress a) (initialHash a)

theorem foldedHash_succ (a : Alg) (m : List (BitVec 8)) (k : Nat) :
    foldedHash a m (k + 1) = compress a (foldedHash a m k) (segmentBlock a (pad a m) k) := by
  simp [foldedHash, List.range_succ]

theorem digestState_eq_foldedHash (a : Alg) (m : List (BitVec 8)) :
    digestState a m = foldedHash a m (blockCount a m.length) := by
  rw [digestState, segment_pad, foldedHash]

/-- Words formed from bytes that agree are equal. -/
theorem beWord_congr {b c : Nat → BitVec 8} {i j width : Nat}
    (h : ∀ k, k < width → b (i * width + k) = c (j * width + k)) : beWord b i width = beWord c j width := by
  rw [beWord, beWord, bigEndian_congr _ _ width h]

/-- Byte k of word j of block i of the stream. -/
theorem block_byte_index (a : Alg) (i j k : Nat) :
    (16 * i + j) * wordBytes a + k = i * blockBytes a + (j * wordBytes a + k) := by
  rw [blockBytes_eq_words]
  ring

theorem block_byte_lt (a : Alg) {j k : Nat} (hj : j < 16) (hk : k < wordBytes a) :
    j * wordBytes a + k < blockBytes a := by
  have hmul : j * wordBytes a ≤ 15 * wordBytes a := Nat.mul_le_mul_right _ (by omega)
  rw [blockBytes_eq_words]
  omega

/-- A block of a stream depends on its own bytes only. -/
theorem segmentBlock_congr {a : Alg} {p q : List (BitVec 8)} {i : Nat}
    (h : ∀ j, j < blockBytes a → p.getD (i * blockBytes a + j) 0#8 = q.getD (i * blockBytes a + j) 0#8) :
    segmentBlock a p i = segmentBlock a q i := by
  refine List.map_congr_left fun j hj => beWord_congr fun k hk => ?_
  rw [block_byte_index]
  exact h _ (block_byte_lt a (List.mem_range.1 hj) hk)

/-- A full buffer that holds block k of the stream is read by LOAD as that block (R322). -/
theorem bufferBlock_eq_segmentBlock {s : State} {p : List (BitVec 8)} {k : Nat}
    (h : ∀ j, j < blockBytes s.alg → readAt s.buf j 0#8 = p.getD (k * blockBytes s.alg + j) 0#8) :
    bufferBlock s = segmentBlock s.alg p k := by
  refine List.map_congr_left fun j hj => beWord_congr fun r hr => ?_
  rw [block_byte_index]
  exact h _ (block_byte_lt s.alg (List.mem_range.1 hj) hr)

/-- More bytes change no block that the message already fills. -/
theorem segmentBlock_append (a : Alg) (m x : List (BitVec 8)) {i k : Nat} (hi : i < k)
    (hk : k * blockBytes a ≤ m.length) : segmentBlock a (pad a (m ++ x)) i = segmentBlock a (pad a m) i := by
  have hmul : (i + 1) * blockBytes a ≤ k * blockBytes a := Nat.mul_le_mul_right _ hi
  rw [Nat.succ_mul] at hmul
  refine segmentBlock_congr fun j hj => ?_
  rw [getD_pad_of_lt _ _ _ (by rw [List.length_append]; omega), getD_pad_of_lt _ _ _ (by omega),
    List.getD_append _ _ _ _ (by omega)]

theorem map_segmentBlock_append (a : Alg) (m x : List (BitVec 8)) {k : Nat} (hk : k * blockBytes a ≤ m.length) :
    (List.range k).map (segmentBlock a (pad a (m ++ x))) = (List.range k).map (segmentBlock a (pad a m)) :=
  List.map_congr_left fun _ hi => segmentBlock_append a m x (List.mem_range.1 hi) hk

/-! ## What the state of a computation holds -/

/-- Where the padding stands after k whole blocks with `fill` bytes in the buffer, for a message of n bytes (R326 to
R329). -/
def PaddingPosition (a : Alg) (n k fill : Nat) (p : PadStage) : Prop :=
  match p with
  | .none => False
  | .mark => k * blockBytes a + fill = n
  | .zfull => k * blockBytes a + fill = n + 1 ∧ blockBytes a - lenBytes a < fill
  | .len => n < k * blockBytes a + fill ∧ blockCount a n = k + 1
  | .second => n < (k + 1) * blockBytes a ∧ blockCount a n = k + 2
  | .last => blockCount a n = k + 1

/-- The blocks LOAD has read: those folded, and the one in work. -/
def blocksRead (s : State) (k : Nat) : Nat := if s.cph.working then k + 1 else k

/-- What a state of a computation of `m` holds: the first k blocks of pad(M) are in H, the bytes from there on in BUF,
and the block in work in V and S. -/
structure Progress (a : Alg) (m : List (BitVec 8)) (blocks : List (List (BitVec 64))) (finished : Bool) (k : Nat)
    (s : State) : Prop where
  regs : RegInv s
  alg : s.alg = a
  blocks_eq : blocks = (List.range (blocksRead s k)).map (segmentBlock a (pad a m))
  hash : s.h = foldedHash a m k
  work : s.cph.working = true → Compressing (segmentBlock a (pad a m) k) s
  buffered : ∀ j, j < s.fill.toNat → readAt s.buf j 0#8 = (pad a m).getD (k * blockBytes a + j) 0#8
  mlen : s.mlen.toNat = lengthField a m.length
  unfinished : finished = false →
    (s.mode = .accept ∨ s.mode = .busyBlock) ∧ k * blockBytes a + s.fill.toNat = m.length
  final : finished = true →
    (s.mode = .busyFinal ∧ PaddingPosition a m.length k s.fill.toNat s.pstage)
      ∨ (s.mode = .done ∧ blockCount a m.length = k)

section Steps
variable {a : Alg} {m : List (BitVec 8)} {blocks : List (List (BitVec 64))} {finished : Bool} {k : Nat} {s t : State}

theorem progress_of_sameEngine (h : Progress a m blocks finished k s) (hsame : SameEngine s t) :
    Progress a m blocks finished k t := by
  have hregs := regInv_of_sameEngine hsame h.regs
  cases s
  cases t
  simp only [SameEngine] at hsame
  obtain ⟨rfl, rfl, rfl, rfl, rfl, rfl, rfl, rfl, rfl, rfl, rfl, rfl, rfl⟩ := hsame
  exact { h with regs := hregs, work := fun hw => ⟨(h.work hw).sch, (h.work hw).v⟩ }

/-! ### The steps of a block -/

theorem progress_stepLoad (h : Progress a m blocks finished k s) (hcph : s.cph = .load) (hregs : RegInv (stepLoad s)) :
    Progress a m (blocks ++ [bufferBlock s]) finished k (stepLoad s) := by
  have hidle : s.cph ≠ .idle := by simp [hcph]
  have hfull : s.fill.toNat = blockBytes s.alg := h.regs.full_block hidle
  have hbuf := h.buffered
  rw [hfull, ← h.alg] at hbuf
  have hblock : bufferBlock s = segmentBlock a (pad a m) k := by
    rw [bufferBlock_eq_segmentBlock hbuf, h.alg]
  exact { h with
    regs := hregs
    blocks_eq := by
      rw [h.blocks_eq, hblock]
      simp [blocksRead, hcph, Phase.working, List.range_succ]
    work := fun _ => hblock ▸ compressing_stepLoad s }

/-- EXPAND and ROUND stay in the block. -/
theorem progress_of_sameOutsideBlock (h : Progress a m blocks finished k s) (hsame : SameOutsideBlock s t)
    (hregs : RegInv t) (hs : s.cph.working = true) (ht : t.cph.working = true)
    (hcomp : Compressing (segmentBlock a (pad a m) k) s → Compressing (segmentBlock a (pad a m) k) t) :
    Progress a m blocks finished k t := by
  obtain ⟨hmode, halg, -, -, hh, hbuf, hfill, hmlen, hstage, -⟩ := hsame
  exact {
    regs := hregs
    alg := halg.trans h.alg
    blocks_eq := by simpa [blocksRead, hs, ht] using h.blocks_eq
    hash := hh.trans h.hash
    work := fun _ => hcomp (h.work hs)
    buffered := by rw [hfill, hbuf]; exact h.buffered
    mlen := by rw [hmlen]; exact h.mlen
    unfinished := by rw [hmode, hfill]; exact h.unfinished
    final := by rw [hmode, hfill, hstage]; exact h.final }

theorem cph_idle_of_not_busy {s : State} (hs : RegInv s) (hbusy : s.busy = false) : s.cph = .idle :=
  (hs.idle_unless_busy hbusy).1

/-- Before FINISH a fold brings the computation back to ACCEPT, with one more block behind it. -/
theorem Progress.unfinished_stepFold (h : Progress a m blocks finished k s) (hcph : s.cph = .fold)
    (hf : finished = false) : ((stepFold s).mode = .accept ∨ (stepFold s).mode = .busyBlock)
      ∧ (k + 1) * blockBytes a + (stepFold s).fill.toNat = m.length := by
  have hidle : s.cph ≠ .idle := by simp [hcph]
  have hfull : s.fill.toNat = blockBytes a := h.alg ▸ h.regs.full_block hidle
  obtain ⟨hmode, hpos⟩ := h.unfinished hf
  have hblock : s.mode = .busyBlock :=
    hmode.resolve_left fun haccept => hidle (cph_idle_of_not_busy h.regs (busy_of_accept haccept))
  refine ⟨.inl (stepFold_of_busyBlock hblock).1, ?_⟩
  rw [Nat.succ_mul, ← hpos, hfull]
  rfl

/-- After FINISH a fold leads to the length-field stage, or to DONE with every block behind it. -/
theorem Progress.final_stepFold (h : Progress a m blocks finished k s) (hcph : s.cph = .fold) (hf : finished = true) :
    ((stepFold s).mode = .busyFinal
        ∧ PaddingPosition a m.length (k + 1) (stepFold s).fill.toNat (stepFold s).pstage)
      ∨ ((stepFold s).mode = .done ∧ blockCount a m.length = k + 1) := by
  have hidle : s.cph ≠ .idle := by simp [hcph]
  rcases h.final hf with ⟨hmode, hpos⟩ | ⟨hdone, -⟩
  · have hstage : s.pstage = .second ∨ s.pstage = .last := h.regs.busyFinal_block hmode hidle
    rcases hstage with hstage | hstage <;> rw [hstage] at hpos
    · obtain ⟨hmode', hstage'⟩ := stepFold_of_second hmode hstage
      rw [hstage']
      exact .inl ⟨hmode', hpos⟩
    · exact .inr ⟨(stepFold_of_last hmode hstage).1, hpos⟩
  · exact absurd (cph_idle_of_not_busy h.regs (by simp [State.busy, hdone])) hidle

theorem progress_stepFold (h : Progress a m blocks finished k s) (hcph : s.cph = .fold) (hregs : RegInv (stepFold s)) :
    Progress a m blocks finished (k + 1) (stepFold s) := by
  have hworking : s.cph.working = true := by rw [hcph]; rfl
  have hindex : phaseIndexOk s.alg s.cph s.t.toNat := h.regs.phase_index
  rw [hcph] at hindex
  exact {
    regs := hregs
    alg := h.alg
    blocks_eq := h.blocks_eq.trans (by rw [blocksRead, if_pos hworking]; rfl)
    hash := by
      rw [stepFold_h_of_compressing (h.work hworking) hcph hindex, h.hash, h.alg, foldedHash_succ]
    work := by simp [Phase.working]
    buffered := by simp
    mlen := h.mlen
    unfinished := fun hf => h.unfinished_stepFold hcph hf
    final := fun hf => h.final_stepFold hcph hf }

/-! ### The padding -/

/-- In BUSY_FINAL a computation has had its FINISH, and stands where its padding stage says. -/
theorem Progress.of_busyFinal (h : Progress a m blocks finished k s) (hmode : s.mode = .busyFinal) :
    finished = true ∧ PaddingPosition a m.length k s.fill.toNat s.pstage := by
  cases finished with
  | false =>
    have hbefore := (h.unfinished rfl).1
    simp [hmode] at hbefore
  | true => simpa [hmode] using h.final rfl

theorem progress_stepMark (h : Progress a m blocks finished k s) (hmode : s.mode = .busyFinal) (hcph : s.cph = .idle)
    (hstage : s.pstage = .mark) (hroom : s.fill.toNat < blockBytes s.alg) (hregs : RegInv (stepMark s)) :
    Progress a m blocks finished k (stepMark s) := by
  obtain ⟨hfinished, hpos⟩ := h.of_busyFinal hmode
  rw [hstage] at hpos
  have hpos : k * blockBytes a + s.fill.toNat = m.length := hpos
  have hblock := blockBytes_le s.alg
  have hfill : (stepMark s).fill.toNat = s.fill.toNat + 1 := ofNat_toNat_of_le_blockBytes hroom
  exact {
    regs := hregs
    alg := h.alg
    blocks_eq := h.blocks_eq
    hash := h.hash
    work := by simp [hcph, Phase.working]
    buffered := fun j hj => by
      rw [hfill] at hj
      rw [stepMark_buf, readAt_writeAt]
      split
      case isTrue hself => rw [hself.1, hpos, getD_pad_mark]
      case isFalse hother => exact h.buffered j (by omega)
    mlen := h.mlen
    unfinished := by simp [hfinished]
    final := fun _ => .inl ⟨hmode, by
      rw [hfill, stepMark_pstage, h.alg]
      split
      case isTrue hfits => exact ⟨by omega, blockCount_of_fits hpos hfits⟩
      case isFalse hnot => exact ⟨by omega, by omega⟩⟩ }

/-- A block of padding completed: the buffer holds block k of the stream, and its compression starts. -/
theorem progress_of_paddedBlock (h : Progress a m blocks finished k s) (hcph : s.cph = .idle) (hcph' : t.cph = .load)
    (hregs : RegInv t) (halg : t.alg = s.alg) (hh : t.h = s.h) (hmlen : t.mlen = s.mlen) (hmode : t.mode = .busyFinal)
    (hfinished : finished = true) (hpos : PaddingPosition a m.length k t.fill.toNat t.pstage)
    (hbuf : ∀ j, j < blockBytes a → readAt t.buf j 0#8 = (pad a m).getD (k * blockBytes a + j) 0#8) :
    Progress a m blocks finished k t where
  regs := hregs
  alg := halg.trans h.alg
  blocks_eq := by simpa [blocksRead, hcph, hcph', Phase.working] using h.blocks_eq
  hash := hh.trans h.hash
  work := by simp [hcph', Phase.working]
  buffered j hj := hbuf j (hj.trans_le (h.alg ▸ halg ▸ hregs.fill_le))
  mlen := by rw [hmlen]; exact h.mlen
  unfinished := by simp [hfinished]
  final _ := .inl ⟨hmode, hpos⟩

theorem progress_stepZfull (h : Progress a m blocks finished k s) (hmode : s.mode = .busyFinal) (hcph : s.cph = .idle)
    (hstage : s.pstage = .zfull) (hregs : RegInv (stepZfull s)) : Progress a m blocks finished k (stepZfull s) := by
  obtain ⟨hfinished, hpos⟩ := h.of_busyFinal hmode
  rw [hstage] at hpos
  obtain ⟨hpos, hnot⟩ :
    k * blockBytes a + s.fill.toNat = m.length + 1 ∧ blockBytes a - lenBytes a < s.fill.toNat := hpos
  have hle : s.fill.toNat ≤ blockBytes a := h.alg ▸ h.regs.fill_le
  have hblock := blockBytes_le a
  have hlen := lenBytes_le_blockBytes a
  have hcount := blockCount_of_not_fits hpos hle hnot
  have hlength := length_pad_eq_blockCount a m
  rw [hcount, Nat.add_mul] at hlength
  refine progress_of_paddedBlock h hcph rfl hregs rfl rfl rfl hmode hfinished ⟨?_, hcount⟩ fun j hj => ?_
  · rw [Nat.succ_mul]; omega
  · rw [stepZfull_buf, readAt_writeRange, h.alg]
    split
    case isTrue hzero => rw [getD_pad_of_between _ _ _ (by omega) (by omega)]
    case isFalse hold => exact h.buffered j (by omega)

theorem progress_stepLen (h : Progress a m blocks finished k s) (hmode : s.mode = .busyFinal) (hcph : s.cph = .idle)
    (hstage : s.pstage = .len) (hregs : RegInv (stepLen s)) : Progress a m blocks finished k (stepLen s) := by
  obtain ⟨hfinished, hpos⟩ := h.of_busyFinal hmode
  rw [hstage] at hpos
  obtain ⟨hpos, hcount⟩ : m.length < k * blockBytes a + s.fill.toNat ∧ blockCount a m.length = k + 1 := hpos
  have hle : s.fill.toNat ≤ blockBytes s.alg - lenBytes s.alg := h.regs.len_room hstage
  have hlen := lenBytes_le_blockBytes a
  have hlength := length_pad_eq_blockCount a m
  rw [hcount, Nat.succ_mul] at hlength
  refine progress_of_paddedBlock h hcph rfl hregs rfl rfl rfl hmode hfinished hcount fun j hj => ?_
  obtain rfl := h.alg
  rcases Nat.lt_or_ge j s.fill.toNat with hold | hnew
  · rw [readAt_stepLen_old s hle (.inl hold), h.buffered j hold]
  rcases Nat.lt_or_ge j (blockBytes s.alg - lenBytes s.alg) with hzero | hfield
  · rw [readAt_stepLen_zero s hnew hzero, getD_pad_of_between _ _ _ (by omega) (by omega)]
  · obtain ⟨i, rfl⟩ := Nat.exists_eq_add_of_le hfield
    have hindex : k * blockBytes s.alg + (blockBytes s.alg - lenBytes s.alg + i)
        = (pad s.alg m).length - lenBytes s.alg + i := by omega
    rw [readAt_stepLen_lengthField s (by omega), h.mlen, hindex, getD_pad_lengthField _ _ _ (by omega)]

/-- A step of a busy engine keeps what the state holds; LOAD reads one more block. -/
theorem exists_progress_of_busyStep (h : Progress a m blocks finished k s) (hbusy : s.busy = true)
    (hstep : busyStep s = .next t) :
    ∃ k', Progress a m (if s.cph = .load then blocks ++ [bufferBlock s] else blocks) finished k' t := by
  have hregs := regInv_busyStep h.regs hbusy hstep
  rcases busyStep_cases s t hstep with ⟨hcph, rfl⟩ | ⟨hcph, hlo, hhi, rfl⟩ | ⟨hcph, hhi, rfl⟩ | ⟨hcph, rfl⟩ |
    ⟨hcph, hmode, hstage, hroom, rfl⟩ | ⟨hcph, hmode, hstage, rfl⟩ | ⟨hcph, hmode, hstage, rfl⟩ <;>
    simp only [hcph, reduceCtorEq, if_true, if_false]
  · exact ⟨k, progress_stepLoad h hcph hregs⟩
  · exact ⟨k, progress_of_sameOutsideBlock h (sameOutsideBlock_stepExpand s) hregs (by rw [hcph]; rfl)
      (working_stepExpand s) fun hcomp => compressing_stepExpand hcomp hcph hlo hhi⟩
  · exact ⟨k, progress_of_sameOutsideBlock h (sameOutsideBlock_stepRound s) hregs (by rw [hcph]; rfl)
      (working_stepRound s) fun hcomp => compressing_stepRound hcomp hcph hhi⟩
  · exact ⟨k + 1, progress_stepFold h hcph hregs⟩
  · exact ⟨k, progress_stepMark h hmode hcph hstage hroom hregs⟩
  · exact ⟨k, progress_stepZfull h hmode hcph hstage hregs⟩
  · exact ⟨k, progress_stepLen h hmode hcph hstage hregs⟩

/-! ### The host's commands -/

theorem progress_startComputation (a : Alg) (s : State) : Progress a [] [] false 0 (startComputation a s) where
  regs := regInv_startComputation a s
  alg := rfl
  blocks_eq := rfl
  hash := rfl
  work := by simp [Phase.working]
  buffered := by simp
  mlen := by simp [lengthField]
  unfinished := by simp
  final := by simp

theorem progress_startPadding (h : Progress a m blocks false k s) (hmode : s.mode = .accept) :
    Progress a m blocks true k (startPadding s) :=
  { h with
    regs := inv_startPadding (s := atBaseZero s) h.regs hmode
    work := fun hw => ⟨(h.work hw).sch, (h.work hw).v⟩
    unfinished := by simp
    final := fun _ => .inl ⟨rfl, (h.unfinished rfl).2⟩ }

theorem progress_writeData (h : Progress a m blocks finished k s) (value : BitVec 32) :
    Progress a m blocks finished k (writeData value s) :=
  { h with
    regs := inv_writeData (s := atBaseZero s) h.regs value
    work := fun hw => ⟨(h.work hw).sch, (h.work hw).v⟩ }

theorem getD_dataBytes (data : BitVec 32) {n j : Nat} (h : j < n) :
    (dataBytes data n).getD j 0#8 = dataByte data j := by
  simp [dataBytes, h]

/-- A PUSH within the block appends its bytes to the message and to the buffer (R283). -/
theorem progress_push (h : Progress a m blocks false k s) (hmode : s.mode = .accept) {n : Nat}
    (hroom : s.fill.toNat + n ≤ blockBytes a) :
    Progress a (m ++ dataBytes s.data n) blocks false k (startFullBlock (appendBytes n s)) := by
  obtain ⟨-, hpos⟩ := h.unfinished rfl
  obtain rfl := h.alg
  have hidle := cph_idle_of_not_busy h.regs (busy_of_accept hmode)
  have hfill := appendBytes_fill_toNat hroom
  have hcph' : (startFullBlock (appendBytes n s)).cph.working = false := by
    rw [startFullBlock_cph, appendBytes_cph, hidle]
    split <;> rfl
  have hwhole : k * blockBytes s.alg ≤ m.length := by omega
  have hlength : (m ++ dataBytes s.data n).length = m.length + n := by rw [List.length_append, dataBytes_length]
  exact {
    regs := regInv_push h.regs hmode hroom
    alg := by simp
    blocks_eq := by
      rw [blocksRead, hcph', h.blocks_eq, blocksRead, hidle]
      exact (map_segmentBlock_append _ _ _ hwhole).symm
    hash := by
      rw [startFullBlock_h, appendBytes_h, h.hash, foldedHash, foldedHash, map_segmentBlock_append _ _ _ hwhole]
    work := by simp [hcph']
    buffered := fun j hj => by
      rw [startFullBlock_fill, hfill] at hj
      rw [startFullBlock_buf, getD_pad_of_lt _ _ _ (by omega)]
      rcases Nat.lt_or_ge j s.fill.toNat with hold | hnew
      · rw [readAt_appendBytes_old (.inl hold), h.buffered j hold, getD_pad_of_lt _ _ _ (by omega),
          List.getD_append _ _ _ _ (by omega)]
      · obtain ⟨i, rfl⟩ := Nat.exists_eq_add_of_le hnew
        have hi : i < n := by omega
        rw [readAt_appendBytes_new hroom hi, ← Nat.add_assoc, hpos, List.getD_append_right _ _ _ _ (by omega),
          Nat.add_sub_cancel_left, getD_dataBytes _ hi, dataByte_eq_extractLsb']
    mlen := by
      rw [startFullBlock_mlen, appendBytes_mlen_toNat, h.mlen, hlength, lengthField, lengthField, Nat.mod_add_mod,
        Nat.mul_add]
    unfinished := fun _ => by
      rw [startFullBlock_mode, startFullBlock_fill, hfill, hlength, appendBytes_mode, hmode]
      exact ⟨by split <;> simp, by omega⟩
    final := by simp }

end Steps

/-! ## Every state of a computation -/

theorem step_of_command {s : State} {i : Instr} (h : nextEvent s = .command (encode i)) :
    step s = exec i (issued s) := by
  have hevent := step_by_event s
  rw [h] at hevent
  rw [hevent, writeCmd_encode]

section Computation
variable {a : Alg} {m : List (BitVec 8)} {blocks : List (List (BitVec 64))} {finished : Bool} {s t : State}

theorem exists_progress_of_quiet {k : Nat} (h : Progress a m blocks finished k s) (hquiet : Quiet s)
    (hstep : step s = .next t) : ∃ k', Progress a m blocks finished k' t := by
  obtain ⟨hreset, hcommand, hload⟩ := hquiet
  cases transition_of_step hstep with
  | reset hevent => exact absurd hevent hreset
  | error hevent | init _ hevent | push hevent | finish hevent => exact absurd hevent (hcommand _)
  | dataWrite => exact ⟨k, progress_writeData (progress_of_sameEngine h (sameEngine_issued s)) _⟩
  | unchanged _ _ hsame => exact ⟨k, progress_of_sameEngine h hsame⟩
  | engine hevent hbusy hstep =>
    have hcph : ¬ (turnTaken s).cph = .load := fun hcph => hload ⟨hevent, hcph⟩
    simpa only [if_neg hcph] using
      exists_progress_of_busyStep (progress_of_sameEngine h (sameEngine_turnTaken s)) hbusy hstep

theorem exists_progress (h : Computes a m blocks finished s) : ∃ k, Progress a m blocks finished k s := by
  induction h with
  | @start s t hevent hstep =>
    rw [step_of_command hevent, exec_init_field, Host.Outcome.next.injEq] at hstep
    exact ⟨0, hstep ▸ progress_startComputation a (issued s)⟩
  | @push m blocks s t nb _ hevent hmode hroom hstep ih =>
    obtain ⟨k, hk⟩ := ih
    obtain rfl := hk.alg
    rw [step_of_command hevent, exec_push_of_room (by simpa using hmode) (by simpa using hroom),
      Host.Outcome.next.injEq] at hstep
    exact ⟨k, hstep ▸ progress_push (progress_of_sameEngine hk (sameEngine_issued s)) hmode hroom⟩
  | @finish m blocks s t _ hevent hmode hstep ih =>
    obtain ⟨k, hk⟩ := ih
    rw [step_of_command hevent, exec_finish, whenAccepting_of_accept (by simpa using hmode),
      Host.Outcome.next.injEq] at hstep
    exact ⟨k, hstep ▸ progress_startPadding (progress_of_sameEngine hk (sameEngine_issued s)) hmode⟩
  | @load m blocks finished s t _ hevent hcph hstep ih =>
    obtain ⟨k, hk⟩ := ih
    have hengine := step_by_event s
    rw [hevent] at hengine
    obtain ⟨hbusy, hengine⟩ := hengine
    have hcph' : (turnTaken s).cph = .load := hcph
    have hload :=
      exists_progress_of_busyStep (progress_of_sameEngine hk (sameEngine_turnTaken s)) hbusy (hengine ▸ hstep)
    rwa [if_pos hcph'] at hload
  | quiet _ hquiet hstep ih =>
    obtain ⟨k, hk⟩ := ih
    exact exists_progress_of_quiet hk hquiet hstep

/-! ## The digest -/

theorem lt_blockCount_of_paddingPosition {n k fill : Nat} {p : PadStage} (h : PaddingPosition a n k fill p) :
    k < blockCount a n := by
  cases p with
  | none => exact h.elim
  | mark => exact lt_blockCount (Nat.le.intro h)
  | zfull =>
    obtain ⟨hpos, hnot⟩ := h
    exact lt_blockCount (by omega)
  | len => exact h.2 ▸ Nat.lt_succ_self k
  | second => rw [h.2]; omega
  | last => exact (show blockCount a n = k + 1 from h) ▸ Nat.lt_succ_self k

theorem Progress.blocks_prefix {k : Nat} (h : Progress a m blocks true k s) : blocks <+: segment a (pad a m) := by
  have hle : blocksRead s k ≤ blockCount a m.length := by
    rcases h.final rfl with ⟨-, hpos⟩ | ⟨hdone, hcount⟩
    · have hlt := lt_blockCount_of_paddingPosition hpos
      unfold blocksRead
      split <;> omega
    · have hidle := cph_idle_of_not_busy h.regs (by simp [State.busy, hdone])
      rw [blocksRead, hidle, hcount]
      exact le_rfl
  have hrange : List.range (blocksRead s k) = (List.range (blockCount a m.length)).take (blocksRead s k) := by
    rw [List.take_range, Nat.min_eq_left hle]
  rw [h.blocks_eq, segment_pad, hrange, List.map_take]
  exact List.take_prefix _ _

theorem Progress.digest_of_done {k : Nat} (h : Progress a m blocks finished k s) (hdone : s.mode = .done) :
    blocks = segment a (pad a m) ∧ s.h = digestState a m := by
  have hidle := cph_idle_of_not_busy h.regs (by simp [State.busy, hdone])
  have hcount : blockCount a m.length = k := by
    cases finished with
    | true => simpa [hdone] using h.final rfl
    | false =>
      have hmode := (h.unfinished rfl).1
      simp [hdone] at hmode
  refine ⟨?blocks, ?hash⟩
  case blocks => rw [h.blocks_eq, blocksRead, hidle, segment_pad, hcount]; rfl
  case hash => rw [h.hash, digestState_eq_foldedHash, hcount]

theorem exists_progress_of_engineStep {k : Nat} (h : Progress a m blocks finished k s) (hbusy : s.busy = true)
    (hstep : engineStep s = .next t) : ∃ blocks' k', Progress a m blocks' finished k' t :=
  ⟨_, exists_progress_of_busyStep h hbusy (engineStep_of_busy hbusy ▸ hstep)⟩

/-- After FINISH the engine's steps alone lead to DONE. -/
theorem Progress.exists_engineRun_done {k : Nat} (h : Progress a m blocks true k s) :
    ∃ n t, engineRun n s = .next t ∧ t.mode = .done ∧ t.h = digestState a m := by
  obtain ⟨t, hrun, -, hidle, blocks', k', ht⟩ :=
    exists_runsThrough_remaining (Q := fun u => ∃ blocks k, Progress a m blocks true k u)
      (fun u v _ hbusy hstep ⟨_, _, hu⟩ => exists_progress_of_engineStep hu hbusy hstep) h.regs ⟨blocks, k, h⟩
  have hdone : t.mode = .done := by
    rcases ht.final rfl with ⟨hfinal, -⟩ | ⟨hdone, -⟩
    · rw [busy_of_busyFinal hfinal] at hidle
      cases hidle
    · exact hdone
  exact ⟨_, t, hrun.engineRun_eq, hdone, (ht.digest_of_done hdone).2⟩

end Computation

/-- Settles O47: what every state of the computation holds says where it stands and what it has computed. -/
theorem computationYieldsTheDigest : Obligations.ComputationYieldsTheDigest := by
  intro a m blocks finished s hcomputes
  obtain ⟨k, h⟩ := exists_progress hcomputes
  refine ⟨h.alg, exists_engineStep h.regs, fun hf => (h.unfinished hf).1,
    fun hf => (h.final hf).imp And.left And.left, ?blocks, h.digest_of_done, ?ends⟩
  case blocks => rintro rfl; exact h.blocks_prefix
  case ends => rintro rfl; exact h.exists_engineRun_done

end Sys2Proof.Machine
end

section
/-!
PROOFS. The host program of one computation (70_reset_and_hazards.md R392), run by the whole machine with no turn
listed: each operation leads to the next, and the program is a computation in the sense of 46_sequencer.md R330.
-/

namespace Sys2Proof.Machine

/-! ## Runs of the machine -/

/-- Some number of steps leads from s to t. -/
def Reaches (s t : State) : Prop := ∃ n, Sys2Proof.core.run n s = .next t

theorem Reaches.of_step {s t : State} (h : step s = .next t) : Reaches s t := ⟨1, by rw [core_run_succ h]; rfl⟩

theorem Reaches.head {s t u : State} (h : step s = .next t) (htu : Reaches t u) : Reaches s u := by
  obtain ⟨n, hn⟩ := htu
  exact ⟨n + 1, by rw [core_run_succ h, hn]⟩

theorem Reaches.trans {s t u : State} (hst : Reaches s t) (htu : Reaches t u) : Reaches s u := by
  obtain ⟨n, hn⟩ := hst
  induction n generalizing s with
  | zero =>
    cases hn
    exact htu
  | succ n ih =>
    cases hstep : step s with
    | next v =>
      rw [core_run_succ hstep] at hn
      exact .head hstep (ih hn)
    | fault r =>
      rw [core_run_of_fault hstep] at hn
      cases hn
    | refused r =>
      rw [core_run_of_refused hstep] at hn
      cases hn

/-- With no turn listed the machine runs until the engine is not busy; whatever the engine's steps keep then holds, and
the bus side is as before. -/
theorem exists_reaches_not_busy {Q : State → Prop}
    (hQ : ∀ u v, u.turns = [] → u.busy = true → engineStep u = .next v → Q u → Q v) {s : State} (hs : RegInv s)
    (hturns : s.turns = []) (hq : Q s) : ∃ t, Reaches s t ∧ t.busy = false ∧ SameBus s t ∧ Q t := by
  have hkeep : ∀ u v, RegInv u → u.busy = true → engineStep u = .next v → SameBus s u ∧ Q u → SameBus s v ∧ Q v := by
    rintro u v - hbusy hstep ⟨hbus, hu⟩
    obtain ⟨-, -, hturns', -⟩ := id hbus
    exact ⟨sameBus_trans hbus (sameBus_of_engineStep hbusy hstep), hQ u v (hturns'.trans hturns) hbusy hstep hu⟩
  obtain ⟨t, hrun, -, hidle, hbus, ht⟩ := exists_runsThrough_remaining hkeep hs ⟨sameBus_refl s, hq⟩
  have hsteps : ∀ u : State, u.busy = true ∧ SameBus s u ∧ Q u → u.busy = true ∧ u.turns = [] :=
    fun u ⟨hbusy, ⟨_, _, hu, _⟩, _⟩ => ⟨hbusy, hu.trans hturns⟩
  exact ⟨t, ⟨_, hrun.core_run_eq hsteps⟩, hidle, hbus, ht⟩

/-! ## The host's events -/

theorem nextEvent_of_hostMoves {s : State} (h : HostMoves s) : nextEvent s = hostEvent s := by
  rcases h with hturn | ⟨hnone, hidle⟩
  · obtain ⟨rest, hrest⟩ := List.head?_eq_some_iff.1 hturn
    rw [nextEvent, hrest]
  · rw [nextEvent, hnone]
    simp [hidle]

theorem nextEvent_of_write {s : State} {off : Nat} {value : BitVec 32} {rest : List HostOp}
    (hbase : s.engineBase % 128 = 0) (hoff : off % 4 = 0) (hlt : off < 128) (hmoves : HostMoves s)
    (hhost : s.host = .write (s.engineBase + off) 4 value :: rest) :
    nextEvent s =
      if off = 0x00 then .command value else if off = 0x04 then .dataWrite value else .ignoredWrite off := by
  rw [nextEvent_of_hostMoves hmoves, hostEvent, hhost]
  simp only [opEvent, busTarget_register _ off hbase hoff hlt]

theorem nextEvent_of_wait {s : State} {rest : List HostOp} (hmoves : HostMoves s) (hhost : s.host = .wait :: rest) :
    nextEvent s = .poll := by
  rw [nextEvent_of_hostMoves hmoves, hostEvent, hhost]
  rfl

theorem nextEvent_of_busy {s : State} (hturns : s.turns = []) (hbusy : s.busy = true) : nextEvent s = .engineStep := by
  rw [nextEvent, hturns]
  exact if_pos hbusy

/-! ## The computation the program makes -/

theorem exists_computes_of_engineStep {a : Alg} {m : List (BitVec 8)} {finished : Bool} {s t : State}
    (h : ∃ blocks, Computes a m blocks finished s) (hturns : s.turns = []) (hbusy : s.busy = true)
    (hstep : engineStep s = .next t) : ∃ blocks, Computes a m blocks finished t := by
  obtain ⟨blocks, h⟩ := h
  have hevent := nextEvent_of_busy hturns hbusy
  rw [← step_of_busy hturns hbusy] at hstep
  by_cases hcph : s.cph = .load
  · exact ⟨_, h.load hevent hcph hstep⟩
  · exact ⟨_, h.quiet (by simp [Quiet, hevent, hcph]) hstep⟩

/-- The host is about to perform `ops`, the computation of `m` as far as it has come; no turn is listed and the engine
is not busy, so that the host moves. -/
structure Ready (a : Alg) (m : List (BitVec 8)) (finished : Bool) (base : Nat) (ops : List HostOp) (s : State) :
    Prop where
  computes : ∃ blocks, Computes a m blocks finished s
  turns : s.turns = []
  idle : s.busy = false
  engineBase : s.engineBase = base
  aligned : base % 128 = 0
  host : s.host = ops

section Program
variable {a : Alg} {m : List (BitVec 8)} {finished : Bool} {base : Nat} {ops : List HostOp} {s t : State}

theorem Ready.hostMoves (h : Ready a m finished base ops s) : HostMoves s := .inr ⟨h.turns, h.idle⟩

/-- A register write pending, at its offset from the state's own base. -/
theorem Ready.host_write {off : Nat} {value : BitVec 32}
    (h : Ready a m finished base (.write (base + off) 4 value :: ops) s) :
    s.host = .write (s.engineBase + off) 4 value :: ops := by rw [h.host, h.engineBase]

theorem Ready.base_aligned (h : Ready a m finished base ops s) : s.engineBase % 128 = 0 := h.engineBase ▸ h.aligned

theorem Ready.writeData {value : BitVec 32} (h : Ready a m finished base (.write (base + 0x04) 4 value :: ops) s) :
    ∃ t, Reaches s t ∧ Ready a m finished base ops t ∧ t.data = value := by
  have hevent := nextEvent_of_write h.base_aligned (by decide) (by decide) h.hostMoves h.host_write
  have hstep := step_of_write h.base_aligned (by decide) (by decide) h.hostMoves h.host_write
  rw [writeRegister_data] at hstep
  obtain ⟨blocks, hcomputes⟩ := h.computes
  refine ⟨_, .of_step hstep, ⟨⟨blocks, hcomputes.quiet ?_ hstep⟩, ?_, h.idle, h.engineBase, h.aligned, ?_⟩, rfl⟩
  · simp [Quiet, hevent]
  · simp [h.turns]
  · simp [h.host]

/-- After a CMD write of the computation WAIT is polled once the engine is not busy, and the rest is pending. -/
theorem exists_ready_after_wait (hcomputes : ∃ blocks, Computes a m blocks finished s) (hturns : s.turns = [])
    (hbase : s.engineBase = base) (haligned : base % 128 = 0) (hhost : s.host = .wait :: ops) :
    ∃ t, Reaches s t ∧ Ready a m finished base ops t := by
  obtain ⟨blocks, hc⟩ := id hcomputes
  obtain ⟨k, hk⟩ := exists_progress hc
  obtain ⟨t, hreach, hidle, ⟨hbase', hhost', hturns', -⟩, hcomputes'⟩ :=
    exists_reaches_not_busy (Q := fun u => ∃ blocks, Computes a m blocks finished u)
      (fun u v hturns hbusy hstep hu => exists_computes_of_engineStep hu hturns hbusy hstep) hk.regs hturns hcomputes
  have hmoves : HostMoves t := .inr ⟨hturns'.trans hturns, hidle⟩
  have hwait : t.host = .wait :: ops := hhost'.trans hhost
  have hpoll := step_of_wait hmoves hwait
  obtain ⟨blocks', hc'⟩ := hcomputes'
  refine ⟨_, hreach.trans (.of_step hpoll),
    ⟨⟨blocks', hc'.quiet ?_ hpoll⟩, ?_, hidle, hbase'.trans hbase, haligned, ?_⟩⟩
  · simp [Quiet, nextEvent_of_wait hmoves hwait]
  · simp [hturns', hturns]
  · simp [statusWord_turnTaken, showsBusy_statusWord, hidle]

theorem Ready.nextEvent_cmd {i : Instr} (h : Ready a m finished base (.write base 4 (encode i) :: ops) s) :
    nextEvent s = .command (encode i) :=
  nextEvent_of_write (off := 0x00) h.base_aligned (by decide) (by decide) h.hostMoves (Ready.host_write (off := 0x00) h)

/-- Before FINISH a state that is not busy is in ACCEPT, with a whole number of words to the block's end when the
message so far is whole words. -/
theorem Ready.accept (h : Ready a m false base ops s) :
    s.mode = .accept ∧ (m.length % 4 = 0 → s.fill.toNat + 4 ≤ blockBytes a) := by
  obtain ⟨blocks, hc⟩ := h.computes
  obtain ⟨k, hk⟩ := exists_progress hc
  obtain ⟨hmode, hpos⟩ := hk.unfinished rfl
  have haccept : s.mode = .accept := hmode.resolve_right fun hbusy => by
    have hidle := h.idle
    simp [State.busy, hbusy] at hidle
  have hroom : s.fill.toNat < blockBytes a := hk.alg ▸ hk.regs.accept_room haccept
  refine ⟨haccept, fun hwords => ?_⟩
  rcases blockBytes_cases a with ⟨-, hB, -⟩ | ⟨-, hB, -⟩ <;> rw [hB] at hpos hroom ⊢ <;> omega

theorem Ready.push {nb : BitVec 2} (h : Ready a m false base (.write base 4 (encode (.push nb)) :: .wait :: ops) s)
    (hwords : m.length % 4 = 0) :
    ∃ t, Reaches s t ∧ Ready a (m ++ dataBytes s.data (pushCount nb)) false base ops t := by
  obtain ⟨hmode, hroom⟩ := h.accept
  have hcount := pushCount_le nb
  have hroom := hroom hwords
  obtain ⟨blocks, hc⟩ := h.computes
  obtain ⟨k, hk⟩ := exists_progress hc
  have hstep := step_of_command h.nextEvent_cmd
  rw [exec_push_of_room (s := issued s) hmode (by rw [issued_fill, issued_alg, hk.alg]; omega)] at hstep
  obtain ⟨t, hreach, ht⟩ := exists_ready_after_wait (base := base) (ops := ops)
    ⟨blocks, hc.push h.nextEvent_cmd hmode (by omega) hstep⟩ (by simp [h.turns]) (by simp [h.engineBase]) h.aligned
    (by simp [h.host])
  exact ⟨t, .head hstep hreach, ht⟩

/-- DATA, PUSH, WAIT: up to four bytes delivered. -/
theorem Ready.deliver {value : BitVec 32} {nb : BitVec 2} (h : Ready a m false base
      (.write (base + 0x04) 4 value :: .write base 4 (encode (.push nb)) :: .wait :: ops) s)
    (hwords : m.length % 4 = 0) :
    ∃ t, Reaches s t ∧ Ready a (m ++ dataBytes value (pushCount nb)) false base ops t := by
  obtain ⟨u, hsu, hu, hdata⟩ := h.writeData
  obtain ⟨t, hut, ht⟩ := hu.push hwords
  exact ⟨t, hsu.trans hut, hdata ▸ ht⟩

/-! ### The message -/

theorem dataByte_toNat (data : BitVec 32) (k : Nat) :
    (dataByte data k).toNat = data.toNat / 2 ^ (24 - 8 * k) % 256 := by
  simp [dataByte, Nat.shiftRight_eq_div_pow]

/-- PUSH takes the bytes of DATA from the most significant on (R78). -/
theorem dataBytes_append (b0 b1 b2 b3 : BitVec 8) : dataBytes (b0 ++ b1 ++ b2 ++ b3) 4 = [b0, b1, b2, b3] := by
  have h0 := b0.isLt
  have h1 := b1.isLt
  have h2 := b2.isLt
  have h3 := b3.isLt
  have hbyte : ∀ (k : Nat) (b : BitVec 8), (b0 ++ b1 ++ b2 ++ b3).toNat / 2 ^ (24 - 8 * k) % 256 = b.toNat →
      dataByte (b0 ++ b1 ++ b2 ++ b3) k = b :=
    fun k b h => BitVec.eq_of_toNat_eq ((dataByte_toNat _ k).trans h)
  simp only [toNat_append_byte] at hbyte
  have e0 := hbyte 0 b0 (by omega)
  have e1 := hbyte 1 b1 (by omega)
  have e2 := hbyte 2 b2 (by omega)
  have e3 := hbyte 3 b3 (by omega)
  simp [dataBytes, List.range_succ, e0, e1, e2, e3]

theorem dataBytes_eq_take (data : BitVec 32) {n : Nat} (h : n ≤ 4) : dataBytes data n = (dataBytes data 4).take n := by
  rw [dataBytes, dataBytes, ← List.map_take, List.take_range, Nat.min_eq_left h]

theorem tailWord_eq_append (tail : List (BitVec 8)) :
    tailWord tail = tail.getD 0 0#8 ++ tail.getD 1 0#8 ++ tail.getD 2 0#8 ++ 0#8 := by
  refine BitVec.eq_of_toNat_eq ?_
  simp only [tailWord_toNat, toNat_append_byte, BitVec.toNat_ofNat]
  omega

/-- PUSHT's DATA word gives its tail back. -/
theorem dataBytes_tailWord {tail : List (BitVec 8)} (h : tail.length ≤ 3) :
    dataBytes (tailWord tail) tail.length = tail := by
  rw [dataBytes_eq_take _ (by omega), tailWord_eq_append, dataBytes_append]
  match tail, h with
  | [], _ => rfl
  | [_], _ => rfl
  | [_, _], _ => rfl
  | [_, _, _], _ => rfl

theorem expandAsm_pushw (base : Nat) (imm : BitVec 32) :
    expandAsm base (.pushw imm) = [.write (base + 0x04) 4 imm, .write base 4 (encode (.push 3#2))] := by
  rw [expandAsm, ← pushWord_pushCount]
  rfl

/-- The last, incomplete word of a message delivered. -/
theorem Ready.deliver_tail {tail : List (BitVec 8)} (hlo : 1 ≤ tail.length) (hhi : tail.length ≤ 3)
    (h : Ready a m false base ([AsmOp.pusht tail, .wait].flatMap (expandAsm base) ++ ops) s)
    (hwords : m.length % 4 = 0) : ∃ t, Reaches s t ∧ Ready a (m ++ tail) false base ops t := by
  obtain ⟨nb, hnb⟩ := exists_pushCount_eq hlo (by omega)
  have hops : [AsmOp.pusht tail, .wait].flatMap (expandAsm base) ++ ops =
      .write (base + 0x04) 4 (tailWord tail) :: .write base 4 (encode (.push nb)) :: .wait :: ops := by
    rw [← pushWord_pushCount, hnb]
    rfl
  rw [hops] at h
  have hdeliver := h.deliver hwords
  rwa [hnb, dataBytes_tailWord hhi] at hdeliver

/-- The message delivered in words of four bytes and a tail. -/
theorem Ready.message (msg : List (BitVec 8)) : ∀ (m : List (BitVec 8)) (s : State),
    Ready a m false base ((messageOps msg).flatMap (expandAsm base) ++ ops) s → m.length % 4 = 0 →
    ∃ t, Reaches s t ∧ Ready a (m ++ msg) false base ops t := by
  induction msg using messageOps.induct with
  | case1 b0 b1 b2 b3 rest ih =>
    intro m s h hwords
    have hops : (messageOps (b0 :: b1 :: b2 :: b3 :: rest)).flatMap (expandAsm base) ++ ops =
        .write (base + 0x04) 4 (b0 ++ b1 ++ b2 ++ b3) :: .write base 4 (encode (.push 3#2)) :: .wait ::
          ((messageOps rest).flatMap (expandAsm base) ++ ops) := by
      rw [messageOps, List.flatMap_cons, expandAsm_pushw]
      rfl
    rw [hops] at h
    obtain ⟨u, hsu, hu⟩ := h.deliver hwords
    rw [show pushCount 3#2 = 4 from rfl, dataBytes_append] at hu
    obtain ⟨t, hut, ht⟩ := ih _ u hu (by simp; omega)
    exact ⟨t, hsu.trans hut, by simpa using ht⟩
  | case2 => exact fun m s h _ => ⟨s, ⟨0, rfl⟩, by simpa [messageOps] using h⟩
  | case3 tail hlong hnil =>
    have hhi : tail.length ≤ 3 := by
      rcases tail with _ | ⟨b0, _ | ⟨b1, _ | ⟨b2, _ | ⟨b3, rest⟩⟩⟩⟩
      case cons.cons.cons.cons => exact (hlong b0 b1 b2 b3 rest rfl).elim
      all_goals simp
    intro m s h hwords
    rw [messageOps.eq_3 tail hlong hnil] at h
    exact h.deliver_tail (List.length_pos_iff.2 hnil) hhi hwords

/-! ### INIT and FINISH -/

/-- From any state that meets the invariant the machine runs until the engine is not busy, and INIT starts the
computation. -/
theorem exists_ready_after_init (hs : Inv s) (hturns : s.turns = [])
    (hhost : s.host = .write s.engineBase 4 (encode (.init a.field)) :: ops) :
    ∃ t, Reaches s t ∧ Ready a [] false s.engineBase ops t := by
  obtain ⟨u, hreach, hidle, ⟨hbase, hhost', hturns', -⟩, -⟩ := exists_reaches_not_busy (Q := fun _ => True)
    (fun _ _ _ _ _ _ => trivial) ((inv_iff s).1 hs).2 hturns trivial
  have hmoves : HostMoves u := .inr ⟨hturns'.trans hturns, hidle⟩
  have haligned := hs.base_aligned
  have hevent : nextEvent u = .command (encode (.init a.field)) :=
    nextEvent_of_write (off := 0x00) (by rw [hbase]; exact haligned) (by decide) (by decide) hmoves
      (by rw [hhost', hhost, hbase]; rfl)
  have hstep := step_of_command hevent
  rw [exec_init_field] at hstep
  refine ⟨_, hreach.trans (.of_step hstep), ⟨⟨_, .start hevent hstep⟩, ?_, ?_, ?_, haligned, ?_⟩⟩
  · simp [hturns', hturns]
  · simp [State.busy]
  · simp [hbase]
  · simp [hhost', hhost]

/-- FINISH and WAIT: the engine has come to DONE with the digest. -/
theorem Ready.finish (h : Ready a m false base (.write base 4 (encode .finish) :: .wait :: ops) s) :
    ∃ t, Reaches s t ∧ Ready a m true base ops t := by
  obtain ⟨hmode, -⟩ := h.accept
  obtain ⟨blocks, hc⟩ := h.computes
  have hstep := step_of_command h.nextEvent_cmd
  rw [exec_finish, whenAccepting_of_accept (by simpa using hmode)] at hstep
  obtain ⟨t, hreach, ht⟩ := exists_ready_after_wait (base := base) (ops := ops)
    ⟨blocks, hc.finish h.nextEvent_cmd hmode hstep⟩ (by simp [h.turns]) (by simp [h.engineBase]) h.aligned
    (by simp [h.host])
  exact ⟨t, .head hstep hreach, ht⟩

theorem Ready.done (h : Ready a m true base ops s) : s.mode = .done ∧ s.alg = a ∧ s.h = digestState a m := by
  obtain ⟨blocks, hc⟩ := h.computes
  obtain ⟨k, hk⟩ := exists_progress hc
  have hdone : s.mode = .done := by
    rcases hk.final rfl with ⟨hfinal, -⟩ | ⟨hdone, -⟩
    · have hidle := h.idle
      rw [busy_of_busyFinal hfinal] at hidle
      cases hidle
    · exact hdone
  exact ⟨hdone, hk.alg, (hk.digest_of_done hdone).2⟩

end Program

/-! ## The reads of DIGEST -/

theorem sameEngine_trans {s t u : State} (h₁ : SameEngine s t) (h₂ : SameEngine t u) : SameEngine s u := by
  simp_all [SameEngine]

theorem digestWord_of_sameEngine {s t : State} (h : SameEngine s t) (i : Nat) : digestWord t i = digestWord s i := by
  obtain ⟨hmode, halg, -, -, hh, -⟩ := h
  exact digestWord_congr hmode halg hh i

/-- Reads of DIGEST registers, taken in order, return their values and leave the engine as it is. -/
theorem exists_reaches_reads (is : List Nat) : ∀ s : State, (∀ i ∈ is, i < 16) → s.engineBase % 128 = 0 →
    s.turns = [] → s.busy = false → s.host = is.map (fun i => .read (s.engineBase + 0x40 + 4 * i) 4) →
    ∃ t, Reaches s t ∧ SameEngine s t ∧ t.host = [] ∧ t.responses = (is.map (digestWord s)).reverse ++ s.responses := by
  induction is with
  | nil => exact fun s _ _ _ _ hhost => ⟨s, ⟨0, rfl⟩, by simp [SameEngine], hhost, rfl⟩
  | cons i is ih =>
    intro s hlt hbase hturns hidle hhost
    obtain ⟨hi, hlt⟩ := List.forall_mem_cons.1 hlt
    rw [List.map_cons, Nat.add_assoc] at hhost
    have hstep := step_of_read hbase (by omega) (by omega) (.inr ⟨hturns, hidle⟩) hhost
    rw [readRegister_issued, readRegister_digest] at hstep
    have hsame := sameEngine_respond_issued (digestWord s i) s
    obtain ⟨t, hreach, hsame', hhost', hresponses⟩ :=
      ih (respond (digestWord s i) (issued s)) hlt hbase (by simp [hturns]) hidle (by simp [hhost])
    refine ⟨t, .head hstep hreach, sameEngine_trans hsame hsame', hhost', ?_⟩
    rw [hresponses, funext (digestWord_of_sameEngine hsame)]
    simp

/-! ## The DIGEST registers show the digest -/

theorem map_readAt_range {α : Type} {k : Nat} (x : Vector α k) (d : α) {n : Nat} (h : n ≤ k) :
    (List.range n).map (fun i => readAt x i d) = x.toList.take n := by
  refine List.ext_getElem (by simpa using h) fun i hi hi' => ?_
  simp only [List.length_map, List.length_range] at hi
  simp [readAt_eq_getElem x i d (hi.trans_le h)]

/-- A list of pairs in order, from even and odd indices. -/
theorem map_range_two_mul {β : Type} (f : Nat → β) (n : Nat) :
    (List.range (2 * n)).map f = (List.range n).flatMap fun i => [f (2 * i), f (2 * i + 1)] := by
  induction n with
  | zero => rfl
  | succ n ih =>
    rw [Nat.mul_succ, List.range_add, List.map_append, ih, List.range_succ (n := n), List.flatMap_append]
    rfl

/-- With 32-bit words each register shows one word of H. -/
theorem map_digestWord_of_wordBits_eq {s : State} (hdone : s.mode = .done) (hw : wordBits s.alg = 32) :
    (List.range (stateWords s.alg)).map (digestWord s) = (s.h.toList.take (stateWords s.alg)).map low32 := by
  have hword : ∀ i ∈ List.range (stateWords s.alg), digestWord s i = low32 (readAt s.h i 0#64) := fun i hi => by
    rw [digestWord_of_wordBits_eq hdone hw, if_pos (List.mem_range.1 hi), low32_eq_extractLsb']
  rw [List.map_congr_left hword, ← map_readAt_range s.h 0#64 (stateWords_le s.alg), List.map_map]
  rfl

/-- With 64-bit words two registers show the two halves of each word of H. -/
theorem map_digestWord_of_wordBits_ne {s : State} (hdone : s.mode = .done) (hw : wordBits s.alg ≠ 32) :
    (List.range (2 * stateWords s.alg)).map (digestWord s) =
      (s.h.toList.take (stateWords s.alg)).flatMap fun x : BitVec 64 => [low32 (x >>> 32), low32 x] := by
  have heven : ∀ i, digestWord s (2 * i) = low32 (readAt s.h i 0#64 >>> 32) := fun i => by
    rw [digestWord_of_wordBits_ne hdone hw, if_pos (by omega), Nat.mul_div_cancel_left i (by decide),
      low32_ushiftRight_eq_extractLsb']
  have hodd : ∀ i, digestWord s (2 * i + 1) = low32 (readAt s.h i 0#64) := fun i => by
    rw [digestWord_of_wordBits_ne hdone hw, if_neg (by omega), Nat.add_sub_cancel,
      Nat.mul_div_cancel_left i (by decide), low32_eq_extractLsb']
  rw [map_range_two_mul, ← map_readAt_range s.h 0#64 (stateWords_le s.alg), List.flatMap_map]
  simp only [heven, hodd]

/-- In DONE the DIGEST registers read in order are the digest's 32-bit words (10_state.md R50). -/
theorem map_digestWord_eq_digestRegisters {a : Alg} {m : List (BitVec 8)} {s : State} (hdone : s.mode = .done)
    (halg : s.alg = a) (hh : s.h = digestState a m) :
    (List.range (digestRegisterCount a)).map (digestWord s) = digestRegisters a m := by
  obtain rfl := halg
  rw [digestRegisters, digest, ← hh]
  by_cases hw : wordBits s.alg = 32
  · have hcount : digestRegisterCount s.alg = stateWords s.alg := by
      rw [digestRegisterCount, digestBits, hw, Nat.mul_div_cancel _ (by decide)]
    rw [hcount, map_digestWord_of_wordBits_eq hdone hw, List.map_eq_flatMap]
    simp only [hw, if_true]
  · have hcount : digestRegisterCount s.alg = 2 * stateWords s.alg := by
      cases halg : s.alg <;> simp_all [wordBits, digestRegisterCount, digestBits, stateWords]
    rw [hcount, map_digestWord_of_wordBits_ne hdone hw]
    simp only [hw, if_false]

/-! ## The program -/

/-- The program's bus operations: INIT, the message, FINISH, WAIT and the reads (R392). -/
theorem assemble_hostProgram (base : Nat) (a : Alg) (m : List (BitVec 8)) {ops : List HostOp}
    (h : assemble base (hostProgram a m) = some ops) :
    ops = .write base 4 (encode (.init a.field)) :: ((messageOps m).flatMap (expandAsm base) ++
      .write base 4 (encode .finish) :: .wait ::
        (List.range (digestRegisterCount a)).map fun i => .read (base + 0x40 + 4 * i) 4) := by
  unfold assemble at h
  split at h
  case isTrue =>
    rw [Option.some.injEq] at h
    rw [← h, hostProgram, List.flatMap_append, List.flatMap_cons]
    simp [expandAsm, asmWrite, regOffset]
  case isFalse => cases h

theorem digestRegisterCount_le (a : Alg) : digestRegisterCount a ≤ 16 := by cases a <;> decide

/-- Settles O50: the program's operations one after another; the reads return the DIGEST registers, which show the
digest of the computation. -/
theorem hostProgramReadsTheDigest : Obligations.HostProgramReadsTheDigest := by
  intro a m s hs hturns hprogram
  obtain ⟨s₁, hinit, h₁⟩ := exists_ready_after_init hs hturns (assemble_hostProgram s.engineBase a m hprogram)
  obtain ⟨s₂, hmessage, h₂⟩ := Ready.message m [] s₁ h₁ rfl
  obtain ⟨s₃, hfinish, h₃⟩ := h₂.finish
  obtain ⟨hdone, halg, hh⟩ := h₃.done
  have hcount := digestRegisterCount_le a
  obtain ⟨t, hreads, ⟨hmode, -⟩, hhost, hresponses⟩ := exists_reaches_reads (List.range (digestRegisterCount a)) s₃
    (fun i hi => (List.mem_range.1 hi).trans_le hcount) h₃.base_aligned h₃.turns h₃.idle
    (by rw [h₃.host, h₃.engineBase])
  obtain ⟨n, hrun⟩ := ((hinit.trans hmessage).trans hfinish).trans hreads
  refine ⟨n, t, hrun, hhost, hmode.trans hdone, ?_⟩
  rw [hresponses, List.take_left' (by simp), List.reverse_reverse]
  exact map_digestWord_eq_digestRegisters hdone halg hh

end Sys2Proof.Machine
end

section
/-!
PROOFS. Nothing of an earlier computation reaches a later one (44_compressor.md R252; 10_state.md R52): two machines
that differ only in the parts of V, S and BUF that no step reads before it writes them do the same under any
interleaving.
-/

namespace Sys2Proof.Machine

/-! ## States that differ in unread storage -/

/-- `s` with other contents of V, S and BUF. -/
def withStorage (s : State) (v : Vector (BitVec 64) 8) (sch : Vector (BitVec 64) 80) (buf : Vector (BitVec 8) 128) :
    State := { s with v := v, sch := sch, buf := buf }

/-- The contents agree with those of `s` where a step may read them: the bytes below FILL, and within a block the
working state and the written part of the schedule. -/
structure StorageAgrees (s : State) (v : Vector (BitVec 64) 8) (sch : Vector (BitVec 64) 80)
    (buf : Vector (BitVec 8) 128) : Prop where
  v : s.cph.working = true → ∀ i, i < stateWords s.alg → readAt v i 0#64 = readAt s.v i 0#64
  sch : ∀ i, i < scheduleWritten s.alg s.cph s.t.toNat → readAt sch i 0#64 = readAt s.sch i 0#64
  buf : ∀ j, j < s.fill.toNat → readAt buf j 0#8 = readAt s.buf j 0#8

/-- `t` is `s` but for storage that no step reads. -/
def Alike (s t : State) : Prop := ∃ v sch buf, t = withStorage s v sch buf ∧ StorageAgrees s v sch buf

/-- Outside a block only the bytes below FILL are read. -/
theorem storageAgrees_of_idle {s : State} {v : Vector (BitVec 64) 8} {sch : Vector (BitVec 64) 80}
    {buf : Vector (BitVec 8) 128} (hworking : s.cph.working = false)
    (hbuf : ∀ j, j < s.fill.toNat → readAt buf j 0#8 = readAt s.buf j 0#8) : StorageAgrees s v sch buf where
  v h := by rw [hworking] at h; cases h
  sch i hi := by
    cases hcph : s.cph <;> simp_all [Phase.working, scheduleWritten]
  buf := hbuf

theorem sameBus_of_alike {s t : State} (h : Alike s t) : SameBus s t := by
  obtain ⟨v, sch, buf, rfl, -⟩ := h
  exact ⟨rfl, rfl, rfl, rfl, rfl⟩

/-- An update of other registers keeps states alike. -/
theorem Alike.map {f : State → State} {s t : State} (h : Alike s t)
    (hcomm : ∀ s v sch buf, f (withStorage s v sch buf) = withStorage (f s) v sch buf)
    (hagrees : ∀ {s v sch buf}, StorageAgrees s v sch buf → StorageAgrees (f s) v sch buf) : Alike (f s) (f t) := by
  obtain ⟨v, sch, buf, rfl, h⟩ := h
  exact ⟨v, sch, buf, hcomm s v sch buf, hagrees h⟩

/-- No register of the window shows the storage. -/
theorem readRegister_of_alike {s t : State} (h : Alike s t) (off : Nat) : readRegister off s = readRegister off t := by
  obtain ⟨v, sch, buf, rfl, -⟩ := h
  rfl

theorem control_of_alike {s t : State} (h : Alike s t) : t.mode = s.mode ∧ t.alg = s.alg ∧ t.fill = s.fill := by
  obtain ⟨v, sch, buf, rfl, -⟩ := h
  exact ⟨rfl, rfl, rfl⟩

theorem nextEvent_of_alike {s t : State} (h : Alike s t) : nextEvent t = nextEvent s := by
  obtain ⟨v, sch, buf, rfl, -⟩ := h
  rfl

/-- A write of the elements from lo to hi leaves arrays that agreed below lo agreeing below hi. -/
theorem readAt_writeRange_congr {α : Type} {n : Nat} {x y : Vector α n} {d : α} {lo hi : Nat} (f : Nat → α)
    (h : ∀ j, j < lo → readAt x j d = readAt y j d) (j : Nat) (hj : j < hi) :
    readAt (writeRange x lo hi f) j d = readAt (writeRange y lo hi f) j d := by
  rw [readAt_writeRange, readAt_writeRange]
  split
  case isTrue => rfl
  case isFalse hout =>
    rcases Nat.lt_or_ge j lo with hlo | hlo
    · exact h j hlo
    · rw [readAt_of_le x j d (by omega), readAt_of_le y j d (by omega)]

theorem ofNat_toNat_le (n : Nat) : (BitVec.ofNat 8 n).toNat ≤ n := by
  rw [BitVec.toNat_ofNat]
  exact Nat.mod_le _ _

/-! ## The engine's steps -/

section Engine
variable {s : State} {v : Vector (BitVec 64) 8} {sch : Vector (BitVec 64) 80} {buf : Vector (BitVec 8) 128}

theorem alike_stepLoad (h : StorageAgrees s v sch buf) (hfull : s.fill.toNat = blockBytes s.alg) :
    Alike (stepLoad s) (stepLoad (withStorage s v sch buf)) := by
  refine ⟨_, _, _, rfl, fun _ i hi => ?v, fun i hi => ?sch, h.buf⟩
  case v =>
    rw [stepLoad_alg] at hi
    rw [stepLoad_v, readAt_writeRange_stateWords _ _ _ hi]
    exact readAt_writeRange_stateWords _ _ _ hi
  case sch =>
    have hi : i < 16 := by simpa [scheduleWritten] using hi
    have hword : beWord (fun k => readAt buf k 0#8) i (wordBytes s.alg) =
        beWord (fun k => readAt s.buf k 0#8) i (wordBytes s.alg) :=
      beWord_congr fun k hk => h.buf _ (hfull ▸ block_byte_lt s.alg hi hk)
    rw [readAt_stepLoad_sch s hi, ← hword]
    exact readAt_stepLoad_sch (withStorage s v sch buf) hi

theorem alike_stepExpand (h : StorageAgrees s v sch buf) (hcph : s.cph = .expand) (hlo : 16 ≤ s.t.toNat)
    (hhi : s.t.toNat < rounds s.alg) : Alike (stepExpand s) (stepExpand (withStorage s v sch buf)) := by
  have hbelow : ∀ i, i < s.t.toNat → readAt sch i 0#64 = readAt s.sch i 0#64 := by
    simpa [hcph, scheduleWritten] using h.sch
  refine ⟨_, _, _, rfl, fun _ => h.v (by rw [hcph]; rfl), fun i hi => ?sch, h.buf⟩
  rw [stepExpand_alg, scheduleWritten_stepExpand hhi] at hi
  have hword : expandWord s.alg (fun i => readAt sch i 0#64) s.t.toNat =
      expandWord s.alg (fun i => readAt s.sch i 0#64) s.t.toNat := expandWord_congr s.alg hlo hbelow
  rw [stepExpand_sch, ← hword]
  exact readAt_writeRange_congr _ hbelow i hi

theorem alike_stepRound (h : StorageAgrees s v sch buf) (hcph : s.cph = .round) (hhi : s.t.toNat < rounds s.alg) :
    Alike (stepRound s) (stepRound (withStorage s v sch buf)) := by
  obtain ⟨hv, hsch, hbuf⟩ := h
  simp only [hcph, Phase.working, scheduleWritten, true_implies] at hv hsch
  refine ⟨_, _, _, rfl, fun _ i hi => ?v, fun i hi => ?sch, hbuf⟩
  case v =>
    rw [stepRound_alg] at hi
    have hwords : roundWords s.alg s.t.toNat (readAt sch s.t.toNat 0#64) (fun j => readAt v j 0#64) =
        roundWords s.alg s.t.toNat (readAt s.sch s.t.toNat 0#64) (fun j => readAt s.v j 0#64) := by
      rw [hsch _ hhi, roundWords_congr _ _ _ hv]
    rw [stepRound_v, readAt_roundStep _ _ _ _ hi, ← hwords]
    exact readAt_roundStep _ _ _ _ hi
  case sch =>
    rw [stepRound_alg, scheduleWritten_stepRound] at hi
    exact hsch i hi

theorem alike_stepFold (h : StorageAgrees s v sch buf) (hcph : s.cph = .fold) :
    Alike (stepFold s) (stepFold (withStorage s v sch buf)) := by
  have hh : foldHash s.alg s.h v = foldHash s.alg s.h s.v := foldHash_congr _ _ (h.v (by rw [hcph]; rfl))
  refine ⟨v, sch, buf, ?_, storageAgrees_of_idle rfl fun j hj => absurd hj (Nat.not_lt_zero j)⟩
  unfold stepFold withStorage
  rw [hh]
  rfl

theorem alike_stepMark (h : StorageAgrees s v sch buf) (hcph : s.cph = .idle) :
    Alike (stepMark s) (stepMark (withStorage s v sch buf)) :=
  ⟨_, _, _, rfl, storageAgrees_of_idle (by rw [stepMark_cph, hcph]; rfl) fun j hj =>
    readAt_writeRange_congr _ h.buf j (hj.trans_le (ofNat_toNat_le _))⟩

theorem alike_stepZfull (h : StorageAgrees s v sch buf) : Alike (stepZfull s) (stepZfull (withStorage s v sch buf)) :=
  ⟨_, _, _, rfl, storageAgrees_of_idle rfl fun j hj =>
    readAt_writeRange_congr _ h.buf j (hj.trans_le (ofNat_toNat_le _))⟩

theorem alike_stepLen (h : StorageAgrees s v sch buf) : Alike (stepLen s) (stepLen (withStorage s v sch buf)) :=
  ⟨_, _, _, rfl, storageAgrees_of_idle rfl fun j hj =>
    readAt_writeRange_congr _ (readAt_writeRange_congr _ h.buf) j (hj.trans_le (ofNat_toNat_le _))⟩

end Engine

theorem alike_engineStep {s t s' : State} (hs : RegInv s) (hbusy : s.busy = true) (h : Alike s t)
    (hstep : engineStep s = .next s') : ∃ t', engineStep t = .next t' ∧ Alike s' t' := by
  obtain ⟨v, sch, buf, rfl, hagree⟩ := h
  have hbusy' : (withStorage s v sch buf).busy = true := hbusy
  rw [engineStep_of_busy hbusy] at hstep
  rcases busyStep_cases s s' hstep with ⟨hcph, rfl⟩ | ⟨hcph, hlo, hhi, rfl⟩ | ⟨hcph, hhi, rfl⟩ | ⟨hcph, rfl⟩ |
    ⟨hcph, hmode, hstage, hroom, rfl⟩ | ⟨hcph, hmode, hstage, rfl⟩ | ⟨hcph, hmode, hstage, rfl⟩
  · exact ⟨_, engineStep_of_load hbusy' hcph,
      alike_stepLoad hagree (hs.full_block fun hidle : s.cph = .idle => by simp [hcph] at hidle)⟩
  · exact ⟨_, engineStep_of_expand hbusy' hcph hlo hhi, alike_stepExpand hagree hcph hlo hhi⟩
  · exact ⟨_, engineStep_of_round hbusy' hcph hhi, alike_stepRound hagree hcph hhi⟩
  · exact ⟨_, engineStep_of_fold hbusy' hcph, alike_stepFold hagree hcph⟩
  · exact ⟨_,
      (engineStep_of_padding (s := withStorage s v sch buf) hmode hcph).trans (paddingStep_of_mark hstage hroom),
      alike_stepMark hagree hcph⟩
  · exact ⟨_, (engineStep_of_padding (s := withStorage s v sch buf) hmode hcph).trans (paddingStep_of_zfull hstage),
      alike_stepZfull hagree⟩
  · exact ⟨_, engineStep_of_len (s := withStorage s v sch buf) hmode hcph hstage, alike_stepLen hagree⟩

/-! ## The host's commands -/

theorem alike_raiseError {s t : State} (h : Alike s t) (c : ErrCode) : Alike (raiseError c s) (raiseError c t) := by
  obtain ⟨v, sch, buf, rfl, hagree⟩ := h
  exact ⟨v, sch, buf, rfl, storageAgrees_of_idle rfl hagree.buf⟩

/-- After INIT nothing of V, S and BUF is read before it is written. -/
theorem alike_startComputation {s t : State} (hdata : s.data = t.data) (hbus : SameBus s t) (a : Alg) :
    Alike (startComputation a s) (startComputation a t) := by
  obtain ⟨hbase, hhost, hturns, hresponses, hdraws⟩ := hbus
  refine ⟨t.v, t.sch, t.buf, ?_, storageAgrees_of_idle rfl fun j hj => absurd hj (Nat.not_lt_zero j)⟩
  simp [startComputation, withStorage, hdata, hbase, hhost, hturns, hresponses, hdraws]

theorem alike_whenAccepting {s t acc acc' : State} (h : Alike s t) (hacc : Alike acc acc') :
    Alike (whenAccepting s acc) (whenAccepting t acc') := by
  obtain ⟨hmode, -⟩ := control_of_alike h
  unfold whenAccepting
  rw [hmode]
  cases s.mode with
  | accept => exact hacc
  | error => exact h
  | uninit | busyBlock | busyFinal | done => exact alike_raiseError h _

theorem alike_appendBytes {s t : State} (h : Alike s t) (n : Nat) : Alike (appendBytes n s) (appendBytes n t) := by
  obtain ⟨v, sch, buf, rfl, hagree⟩ := h
  exact ⟨_, _, _, rfl, hagree.v, hagree.sch, fun j hj =>
    readAt_writeRange_congr _ hagree.buf j (hj.trans_le (ofNat_toNat_le _))⟩

theorem alike_startFullBlock {s t : State} (h : Alike s t) : Alike (startFullBlock s) (startFullBlock t) := by
  obtain ⟨v, sch, buf, rfl, hagree⟩ := h
  by_cases hfull : s.fill.toNat = blockBytes s.alg
  · have hs : startFullBlock s = { s with mode := .busyBlock, cph := .load } := if_pos hfull
    have ht : startFullBlock (withStorage s v sch buf) =
        { withStorage s v sch buf with mode := .busyBlock, cph := .load } := if_pos hfull
    rw [hs, ht]
    exact ⟨v, sch, buf, rfl, storageAgrees_of_idle rfl hagree.buf⟩
  · rw [startFullBlock_of_not_full hfull, startFullBlock_of_not_full (s := withStorage s v sch buf) hfull]
    exact ⟨v, sch, buf, rfl, hagree⟩

theorem alike_startPadding {s t : State} (h : Alike s t) : Alike (startPadding s) (startPadding t) :=
  h.map (fun _ _ _ _ => rfl) fun h => { h with }

theorem alike_push {s t : State} (h : Alike s t) (n : Nat) :
    Alike (if s.fill.toNat + n > blockBytes s.alg then raiseError .overrun s else startFullBlock (appendBytes n s))
      (if t.fill.toNat + n > blockBytes t.alg then raiseError .overrun t else startFullBlock (appendBytes n t)) := by
  obtain ⟨-, halg, hfill⟩ := control_of_alike h
  rw [halg, hfill]
  split
  · exact alike_raiseError h _
  · exact alike_startFullBlock (alike_appendBytes h n)

theorem alike_exec {s t : State} (h : Alike s t) (i : Instr) :
    ∃ s' t', exec i s = .next s' ∧ exec i t = .next t' ∧ Alike s' t' := by
  cases i with
  | nop => exact ⟨s, t, exec_nop s, exec_nop t, h⟩
  | push nb => exact ⟨_, _, exec_push nb s, exec_push nb t, alike_whenAccepting h (alike_push h _)⟩
  | finish => exact ⟨_, _, exec_finish s, exec_finish t, alike_whenAccepting h (alike_startPadding h)⟩
  | init x =>
    rcases field_cases x with rfl | ⟨a, rfl⟩
    · exact ⟨_, _, exec_init_three s, exec_init_three t, alike_raiseError h _⟩
    · have hdata : s.data = t.data := readRegister_of_alike h 0x04
      exact ⟨_, _, exec_init_field a s, exec_init_field a t, alike_startComputation hdata (sameBus_of_alike h) a⟩

theorem alike_writeCmd {s t : State} (h : Alike s t) (w : BitVec 32) :
    ∃ s' t', writeCmd w s = .next s' ∧ writeCmd w t = .next t' ∧ Alike s' t' := by
  cases hw : decode w with
  | command i =>
    rw [writeCmd_of_command hw, writeCmd_of_command hw]
    exact alike_exec h i
  | illegal why =>
    refine ⟨_, _, writeCmd_of_illegal hw s, writeCmd_of_illegal hw t, ?_⟩
    obtain ⟨hmode, -⟩ := control_of_alike h
    rw [hmode]
    split
    · exact h
    · exact alike_raiseError h _

/-! ## The whole machine -/

theorem alike_turnTaken {s t : State} (h : Alike s t) : Alike (turnTaken s) (turnTaken t) :=
  h.map (fun _ _ _ _ => rfl) fun h => { h with }

theorem alike_issued {s t : State} (h : Alike s t) : Alike (issued s) (issued t) :=
  h.map (fun _ _ _ _ => rfl) fun h => { h with }

theorem alike_writeData {s t : State} (h : Alike s t) (value : BitVec 32) :
    Alike (writeData value s) (writeData value t) :=
  h.map (fun _ _ _ _ => rfl) fun h => { h with }

theorem alike_respond {s t : State} (h : Alike s t) (off : Nat) :
    Alike (respond (readRegister off s) s) (respond (readRegister off t) t) := by
  rw [readRegister_of_alike h]
  exact h.map (fun _ _ _ _ => rfl) fun h => { h with }

theorem alike_pollStatus {s t : State} (h : Alike s t) (rest : List HostOp) :
    Alike (pollStatus rest s) (pollStatus rest t) :=
  h.map (fun _ _ _ _ => rfl) fun h => { h with }

theorem alike_respondFromPlatform {s t : State} (h : Alike s t) :
    Alike (respondFromPlatform s) (respondFromPlatform t) :=
  h.map (fun _ _ _ _ => rfl) fun h => { h with }

theorem alike_applyReset {s t : State} (h : Alike s t) : Alike (applyReset s) (applyReset t) := by
  obtain ⟨v, sch, buf, rfl, -⟩ := h
  exact ⟨_, _, _, rfl, storageAgrees_of_idle rfl fun j hj => absurd hj (Nat.not_lt_zero j)⟩

/-- Two outcomes of which the host can tell no difference. -/
inductive AlikeOutcomes : Outcome → Outcome → Prop where
  | next {s t : State} : Alike s t → AlikeOutcomes (.next s) (.next t)
  | refused (r : Refusal) : AlikeOutcomes (.refused r) (.refused r)

theorem exists_alike_step {s t s' : State} (hs : RegInv s) (h : Alike s t) (hstep : step s = .next s') :
    ∃ t', step t = .next t' ∧ Alike s' t' := by
  have hevent := step_by_event s
  have hevent' := step_by_event t
  have hissued := alike_issued h
  rw [nextEvent_of_alike h] at hevent'
  cases he : nextEvent s <;> simp only [he, hstep, Host.Outcome.next.injEq, reduceCtorEq] at hevent hevent'
  case reset => exact ⟨_, hevent', hevent ▸ alike_applyReset (alike_turnTaken h)⟩
  case idle => exact ⟨_, hevent', hevent ▸ alike_turnTaken h⟩
  case dataWrite value => exact ⟨_, hevent', hevent ▸ alike_writeData hissued value⟩
  case ignoredWrite off => exact ⟨_, hevent'.2.2, hevent.2.2 ▸ hissued⟩
  case read off => exact ⟨_, hevent', hevent ▸ alike_respond hissued off⟩
  case outsideRead => exact ⟨_, hevent', hevent ▸ alike_respondFromPlatform hissued⟩
  case outsideWrite => exact ⟨_, hevent', hevent ▸ hissued⟩
  case poll =>
    obtain ⟨-, hhost, -⟩ := sameBus_of_alike h
    rw [hhost] at hevent'
    exact ⟨_, hevent', hevent ▸ alike_pollStatus (alike_turnTaken h) _⟩
  case command w =>
    obtain ⟨u, u', hu, hu', halike⟩ := alike_writeCmd hissued w
    rw [hu, Host.Outcome.next.injEq] at hevent
    exact ⟨u', hevent'.trans hu', hevent ▸ halike⟩
  case engineStep =>
    obtain ⟨hbusy, hengine⟩ := hevent
    obtain ⟨hbusy', hengine'⟩ := hevent'
    have hstep' : engineStep (turnTaken s) = .next s' :=
      (engineStep_of_busy (s := turnTaken s) hbusy).trans hengine.symm
    obtain ⟨t', ht', halike⟩ := alike_engineStep (regInv_turnTaken hs) hbusy (alike_turnTaken h) hstep'
    rw [engineStep_of_busy (s := turnTaken t) hbusy'] at ht'
    exact ⟨t', hengine'.trans ht', halike⟩

theorem step_refused_of_alike {s t : State} (h : Alike s t) (hviolation : nextEvent s = .violation) :
    step t = .refused .accessOutsideProtocol := by
  have hevent := step_by_event t
  rwa [nextEvent_of_alike h, hviolation] at hevent

theorem alikeOutcomes_run (n : Nat) : ∀ s t : State, RegInv s → Alike s t →
    AlikeOutcomes (Sys2Proof.core.run n s) (Sys2Proof.core.run n t) := by
  induction n with
  | zero => exact fun s t hs h => .next h
  | succ n ih =>
    intro s t hs h
    rcases step_next_or_refused hs with ⟨hviolation, hrefused⟩ | ⟨-, s', hstep⟩
    · rw [core_run_of_refused hrefused, core_run_of_refused (step_refused_of_alike h hviolation)]
      exact .refused _
    · obtain ⟨t', hstep', halike⟩ := exists_alike_step hs h hstep
      rw [core_run_succ hstep, core_run_succ hstep']
      exact ih s' t' (regInv_of_transition (transition_of_step hstep) hs) halike

/-- Settles O51: after INIT the two states are alike, and alike states run alike. -/
theorem initForgetsEarlierComputations : Obligations.InitForgetsEarlierComputations := by
  intro a s₁ s₂ t₁ t₂ n hdata hbus hinit₁ hinit₂
  rw [exec_init_field, Host.Outcome.next.injEq] at hinit₁ hinit₂
  subst hinit₁ hinit₂
  have hrun := alikeOutcomes_run n _ _ (regInv_startComputation a s₁) (alike_startComputation hdata hbus a)
  generalize Sys2Proof.core.run n (startComputation a s₁) = o₁ at hrun ⊢
  generalize Sys2Proof.core.run n (startComputation a s₂) = o₂ at hrun ⊢
  cases hrun with
  | next halike => exact ⟨sameBus_of_alike halike, readRegister_of_alike halike⟩
  | refused r => rfl

end Sys2Proof.Machine
end
